-- ==== Sys2Proof/Word.lean ====
section
/-!
DEFINITION. The words of the block (R55: bytes of 8 bits, registers of 16, 24 and 32 bits) and the names of its
operations (R40).
-/

namespace Sys2Proof

/-- 8 bits (R11). -/
abbrev Byte := BitVec 8
/-- 16 bits: SIZE, checksum, COUNT, ADDR, CHIPID, TXLEN, RXLEN, WAIT, ERRINFO (R55). -/
abbrev W16 := BitVec 16
/-- 24 bits: ITER and CHIPVER (R55). -/
abbrev W24 := BitVec 24
/-- 32 bits: FOSC, FLASHSZ and the three baud rates (R55). -/
abbrev W32 := BitVec 32

/-- The operation in progress, `op` of R40. -/
inductive Op where
  /-- NONE: no operation is in progress. -/
  | nothing
  | openPort
  | identify
  | setbaud
  | checkbaud
  | erase
  | write
  | xfer
  deriving DecidableEq, Repr

end Sys2Proof
end

