-- ==== Sys2Proof/Syntax.lean ====
section
/-!
DEFINITION. The instructions: one constructor per row of spec/opcode_table.json, in the table's order (R129). A row is a
value the host writes to CMD, a probe or frame the block sends, or a frame the device sends.
-/

namespace Sys2Proof

inductive Instr where
  /-- SYNCH, the probe 7F (R102, R181). -/
  | synch
  /-- BAUD_SET, its two operands the low byte of FOSC and the count (R107, R213). -/
  | baudSet (foscLow : Byte) (count : W16)
  /-- BAUD_CHECK.short (R108). -/
  | baudCheckShort
  /-- BAUD_CHECK.ext (R108). -/
  | baudCheckExt
  /-- ERASE (R109). -/
  | erase
  /-- WRITE, its operands the flash address and the data bytes (R110, R233). -/
  | write (addr : W16) (data : List Byte)
  /-- XFER.frame, any other host frame, its operand the payload (R266). -/
  | xferFrame (payload : List Byte)
  /-- R.IDENT, the identification reply, its operand the payload (R112). -/
  | rIdent (payload : List Byte)
  /-- R.BAUD_SET: payload byte 0 is 0x01, the operand is what follows it (R111). -/
  | rBaudSet (tail : List Byte)
  /-- R.BAUD_CHECK: payload byte 0 is 0x05 (R111). -/
  | rBaudCheck (tail : List Byte)
  /-- R.ERASE: payload byte 0 is 0x03 (R111). -/
  | rErase (tail : List Byte)
  /-- R.WRITE: payload byte 0 is 0x02 (R111). -/
  | rWrite (tail : List Byte)
  /-- R.ANY, any well-formed reply to XFER (R266). -/
  | rAny (payload : List Byte)
  /-- NOP (R261). -/
  | nop
  /-- OPEN (R262). -/
  | openOp
  /-- CLOSE, and the abort while BUSY = 1 (R263, R264). -/
  | close
  /-- IDENTIFY (R183). -/
  | identify
  /-- SETBAUD (R214). -/
  | setbaud
  /-- CHECKBAUD (R218). -/
  | checkbaud
  /-- ERASE.op (R231). -/
  | eraseOp
  /-- WRITE.op (R234). -/
  | writeOp
  /-- XFER (R266). -/
  | xfer
  /-- RESERVED_9 (R120, R260). -/
  | reserved9
  | reservedA
  | reservedB
  | reservedC
  | reservedD
  | reservedE
  /-- CLRERR (R265). -/
  | clrerr
  /-- RESERVED_HI: every CMD value with a non-zero high nibble (R129). -/
  | reservedHi (v : Byte)
  deriving DecidableEq, Repr

end Sys2Proof
end

