-- ==== Sys2Proof/WellFormed.lean ====
section
/-!
DEFINITION. Which instructions the encodings of file 30 can carry: payload lengths that fit SIZE (R104), the shortest
identification reply (R112), the high nibble of a RESERVED_HI value, and the generic row XFER.frame only for a payload that no
other host frame has (R131 looks payload byte 0 up first).
-/

namespace Sys2Proof

/-- The largest payload, in bytes (R10, R104). -/
def maxPayload : Nat := 65529

/-- Whether a host frame with this payload belongs to one of the rows BAUD_SET, BAUD_CHECK.short, BAUD_CHECK.ext, ERASE and
WRITE (R107 to R110); the generic row XFER.frame is for every other payload (R131). -/
def isCommandPayload (p : List Byte) : Bool :=
  p == [0x05] || p == [0x05, 0x00, 0x00, 0x5A, 0xA5] || p == [0x03, 0x00, 0x00, 0x5A, 0xA5]
    || (match p with
        | c :: _ :: k :: m0 :: m1 :: rest =>
            (c == 0x22 && m0 == 0x5A && m1 == 0xA5) || (c == 0x01 && k == 0x40 && rest == [0x00, 0x00, 0x97])
        | _ => false)

/-- The check of every instruction's fields. -/
def Instr.wellFormed : Instr → Bool
  | .write _ data => data.length + 5 ≤ maxPayload
  | .xferFrame p => p.length ≤ maxPayload && !isCommandPayload p
  | .rIdent p => 23 ≤ p.length && p.length ≤ maxPayload
  | .rBaudSet q => q.length + 1 ≤ maxPayload
  | .rBaudCheck q => q.length + 1 ≤ maxPayload
  | .rErase q => q.length + 1 ≤ maxPayload
  | .rWrite q => q.length + 1 ≤ maxPayload
  | .rAny p => p.length ≤ maxPayload
  | .reservedHi v => v >>> 4 != 0
  | .synch | .baudSet _ _ | .baudCheckShort | .baudCheckExt | .erase => true
  | .nop | .openOp | .close | .identify | .setbaud | .checkbaud | .eraseOp | .writeOp | .xfer => true
  | .reserved9 | .reservedA | .reservedB | .reservedC | .reservedD | .reservedE | .clrerr => true

/-- The same check as a proposition. -/
abbrev Instr.WellFormed (i : Instr) : Prop := i.wellFormed = true

end Sys2Proof
end

