-- ==== Sys2Proof/Decode.lean ====
section
/-!
DEFINITION. The wire formats (30_encoding.md), the checksum and ENCODE (40_frame_codec.md, R140, R141), the operation-level
frame parser DECODE_code (R150, R158), the instruction decoder, the encoder, and the reading of an opcode-table word.
-/

namespace Sys2Proof

/-! ### Byte order (R11, R71): every multi-byte field is big-endian -/

/-- `hi(v) = v[15:8]` (R11). -/
def hi (v : W16) : Byte := v.extractLsb' 8 8

/-- `lo(v) = v[7:0]` (R11). -/
def lo (v : W16) : Byte := v.extractLsb' 0 8

/-- `be16(b0, b1) = b0 × 256 + b1` (R11). -/
def be16 (b0 b1 : Byte) : W16 := BitVec.ofNat 16 (b0.toNat * 256 + b1.toNat)

/-- `be32(b0, b1, b2, b3) = ((b0 × 256 + b1) × 256 + b2) × 256 + b3` (R11). -/
def be32 (b0 b1 b2 b3 : Byte) : W32 :=
  BitVec.ofNat 32 (((b0.toNat * 256 + b1.toNat) * 256 + b2.toNat) * 256 + b3.toNat)

/-! ### The constants of the protocol (R2, R17) -/

def prefixByte : Byte := 0x46
def suffixByte : Byte := 0x16
def breakByte : Byte := 0x5A
/-- TX_CODE, on frames the host sends (R103). -/
def txCode : Byte := 0x6A
/-- RX_CODE, on frames the device sends (R103). -/
def rxCode : Byte := 0x68
def synchByte : Byte := 0x7F

/-! ### Checksum and frame construction -/

/-- SIZE = L + 6 (R104), in 16 bits; exact for a payload of at most 65,529 bytes. -/
def sizeField (p : List Byte) : W16 := BitVec.ofNat 16 (p.length + 6)

/-- `sum(p)`, the natural-number sum of the bytes (R12). -/
def byteSum (p : List Byte) : Nat := (p.map BitVec.toNat).sum

/-- CHKSUM(code, p): exact on naturals, reduced modulo 65,536 once at the end (R140). -/
def chksum (code : Byte) (p : List Byte) : W16 :=
  BitVec.ofNat 16 (code.toNat + (hi (sizeField p)).toNat + (lo (sizeField p)).toNat + byteSum p)

/-- ENCODE(code, p), format F (R101, R141). -/
def encodeFrame (code : Byte) (p : List Byte) : List Byte :=
  [prefixByte, prefixByte ^^^ 0xFF, code, hi (sizeField p), lo (sizeField p)] ++ p
    ++ [hi (chksum code p), lo (chksum code p), suffixByte]

/-! ### Command payloads (R106 to R110): the command code is payload byte 0 -/

def baudSetPayload (foscLow : Byte) (count : W16) : List Byte :=
  [0x01, foscLow, 0x40, hi count, lo count, 0x00, 0x00, 0x97]

def checkShortPayload : List Byte := [0x05]

def checkExtPayload : List Byte := [0x05, 0x00, 0x00, breakByte, breakByte ^^^ 0xFF]

def erasePayload : List Byte := [0x03, 0x00, 0x00, breakByte, breakByte ^^^ 0xFF]

def writePayload (addr : W16) (data : List Byte) : List Byte :=
  [0x22, hi addr, lo addr, breakByte, breakByte ^^^ 0xFF] ++ data

/-! ### Frame parsing -/

/-- Why a received frame is not accepted, with what ERRINFO will hold (R121, R293, R294). -/
inductive FrameError where
  /-- A field cut short (R154). -/
  | trunc
  /-- The two bytes after PREFIX, as received (R152). -/
  | header (got : W16)
  /-- A SIZE below 6 (R153). -/
  | size (got : W16)
  /-- The received checksum (R155). -/
  | checksum (got : W16)
  /-- The byte in the suffix position (R155). -/
  | suffix (got : Byte)
  deriving DecidableEq, Repr

/-- What DECODE_code makes of a stream that holds these bytes and then only timeouts, with the bytes it left unread. -/
inductive FrameResult where
  | noFrame (rest : List Byte)
  | frame (payload rest : List Byte)
  /-- `stored` is what DECODE had stored to RXBUF by then (R43, R154). -/
  | bad (e : FrameError) (stored rest : List Byte)
  deriving DecidableEq, Repr

/-- The two checksum bytes and the suffix, both read before either is tested, the checksum first (R155). -/
def parseTail (code : Byte) (p : List Byte) : List Byte → FrameResult
  | c0 :: c1 :: e :: rest =>
      if chksum code p ≠ be16 c0 c1 then .bad (.checksum (be16 c0 c1)) p rest
      else if e ≠ suffixByte then .bad (.suffix e) p rest
      else .frame p rest
  | _ => .bad .trunc p []

/-- The payload: exactly SIZE - 6 bytes (R125, R150). -/
def parsePayload (code : Byte) (n : Nat) (bs : List Byte) : FrameResult :=
  if bs.length < n then .bad .trunc bs [] else parseTail code (bs.take n) (bs.drop n)

/-- SIZE (R153). -/
def parseSize (code : Byte) : List Byte → FrameResult
  | z0 :: z1 :: rest =>
      if (be16 z0 z1).toNat < 6 then .bad (.size (be16 z0 z1)) [] rest
      else parsePayload code ((be16 z0 z1).toNat - 6) rest
  | _ => .bad .trunc [] []

/-- The two header bytes, both read before either is compared (R152). -/
def parseHeader (code : Byte) : List Byte → FrameResult
  | h0 :: h1 :: rest =>
      if h0 = prefixByte ^^^ 0xFF ∧ h1 = code then parseSize code rest else .bad (.header (be16 h0 h1)) [] rest
  | _ => .bad .trunc [] []

/-- DECODE_code (R150, R158) on a stream that holds `bs` and then only timeouts; the block's receiver is `code = rxCode`. -/
def parseFrame (code : Byte) : List Byte → FrameResult
  | [] => .noFrame []
  | b :: rest => if b = prefixByte then parseHeader code rest else .noFrame rest

/-! ### Instructions -/

/-- Where an instruction's bytes come from: a host write to CMD, the line to the device, or the line from the device while the
given operation is in progress (R129, R130). -/
inductive Channel where
  | cmd
  | toDevice
  | fromDevice (awaiting : Op)
  deriving DecidableEq, Repr

/-- Why bytes are no instruction of a channel. -/
inductive DecodeError where
  /-- No byte at all. -/
  | empty
  /-- The first byte is neither PREFIX nor, towards the device, SYNCH (R121 a). -/
  | noFrame
  /-- A malformed frame (R121). -/
  | malformed (e : FrameError)
  /-- A well-formed frame that is no row of the reply the operation in progress awaits (R130). -/
  | notAwaited
  deriving DecidableEq, Repr

/-- The CMD value as an instruction; RESERVED_HI is tested first (R120, R129). -/
def decodeCmd (v : Byte) : Instr :=
  if v >>> 4 ≠ 0 then .reservedHi v
  else if v = 0x00 then .nop
  else if v = 0x01 then .openOp
  else if v = 0x02 then .close
  else if v = 0x03 then .identify
  else if v = 0x04 then .setbaud
  else if v = 0x05 then .checkbaud
  else if v = 0x06 then .eraseOp
  else if v = 0x07 then .writeOp
  else if v = 0x08 then .xfer
  else if v = 0x09 then .reserved9
  else if v = 0x0A then .reservedA
  else if v = 0x0B then .reservedB
  else if v = 0x0C then .reservedC
  else if v = 0x0D then .reservedD
  else if v = 0x0E then .reservedE
  else .clrerr

/-- The row of a host frame with this payload: the fixed layouts of R107 to R110, else the generic XFER.frame (R131). -/
def txRow (p : List Byte) : Instr :=
  if p = checkShortPayload then .baudCheckShort
  else if p = checkExtPayload then .baudCheckExt
  else if p = erasePayload then .erase
  else
    match p with
    | c :: a :: k :: m0 :: m1 :: rest =>
        if c = 0x22 ∧ m0 = breakByte ∧ m1 = breakByte ^^^ 0xFF then .write (be16 a k) rest
        else if c = 0x01 ∧ k = 0x40 ∧ rest = [0x00, 0x00, 0x97] then .baudSet a (be16 m0 m1)
        else .xferFrame p
    | _ => .xferFrame p

/-- The row of a reply with this payload, by the operation that waits for it (R111, R112, R130). -/
def rxRow (awaiting : Op) (p : List Byte) : Option Instr :=
  match awaiting, p with
  | .identify, p => if 23 ≤ p.length then some (.rIdent p) else none
  | .setbaud, c :: q => if c = 0x01 then some (.rBaudSet q) else none
  | .checkbaud, c :: q => if c = 0x05 then some (.rBaudCheck q) else none
  | .erase, c :: q => if c = 0x03 then some (.rErase q) else none
  | .write, c :: q => if c = 0x02 then some (.rWrite q) else none
  | .xfer, p => some (.rAny p)
  | _, _ => none

/-- The instruction at the head of a channel's bytes, with the bytes after it. Total: what is no instruction is rejected by
name. -/
def decode (ch : Channel) (bs : List Byte) : Except DecodeError (Instr × List Byte) :=
  match bs with
  | [] => .error .empty
  | b :: rest =>
    match ch with
    | .cmd => .ok (decodeCmd b, rest)
    | .toDevice =>
        if b = synchByte then .ok (.synch, rest)
        else
          match parseFrame txCode bs with
          | .noFrame _ => .error .noFrame
          | .bad e _ _ => .error (.malformed e)
          | .frame p rest => .ok (txRow p, rest)
    | .fromDevice awaiting =>
        match parseFrame rxCode bs with
        | .noFrame _ => .error .noFrame
        | .bad e _ _ => .error (.malformed e)
        | .frame p rest =>
            match rxRow awaiting p with
            | some i => .ok (i, rest)
            | none => .error .notAwaited

/-- The channel an instruction belongs to. -/
def channelOf : Instr → Channel
  | .synch | .baudSet _ _ | .baudCheckShort | .baudCheckExt | .erase | .write _ _ | .xferFrame _ => .toDevice
  | .rIdent _ => .fromDevice .identify
  | .rBaudSet _ => .fromDevice .setbaud
  | .rBaudCheck _ => .fromDevice .checkbaud
  | .rErase _ => .fromDevice .erase
  | .rWrite _ => .fromDevice .write
  | .rAny _ => .fromDevice .xfer
  | .nop | .openOp | .close | .identify | .setbaud | .checkbaud | .eraseOp | .writeOp | .xfer => .cmd
  | .reserved9 | .reservedA | .reservedB | .reservedC | .reservedD | .reservedE | .clrerr | .reservedHi _ => .cmd

/-- The bytes of an instruction, from the same tables: R102, R107 to R112, R120. -/
def encode : Instr → List Byte
  | .synch => [synchByte]
  | .baudSet f c => encodeFrame txCode (baudSetPayload f c)
  | .baudCheckShort => encodeFrame txCode checkShortPayload
  | .baudCheckExt => encodeFrame txCode checkExtPayload
  | .erase => encodeFrame txCode erasePayload
  | .write a d => encodeFrame txCode (writePayload a d)
  | .xferFrame p => encodeFrame txCode p
  | .rIdent p => encodeFrame rxCode p
  | .rBaudSet q => encodeFrame rxCode (0x01 :: q)
  | .rBaudCheck q => encodeFrame rxCode (0x05 :: q)
  | .rErase q => encodeFrame rxCode (0x03 :: q)
  | .rWrite q => encodeFrame rxCode (0x02 :: q)
  | .rAny p => encodeFrame rxCode p
  | .nop => [0x00]
  | .openOp => [0x01]
  | .close => [0x02]
  | .identify => [0x03]
  | .setbaud => [0x04]
  | .checkbaud => [0x05]
  | .eraseOp => [0x06]
  | .writeOp => [0x07]
  | .xfer => [0x08]
  | .reserved9 => [0x09]
  | .reservedA => [0x0A]
  | .reservedB => [0x0B]
  | .reservedC => [0x0C]
  | .reservedD => [0x0D]
  | .reservedE => [0x0E]
  | .clrerr => [0x0F]
  | .reservedHi v => [v]

/-! ### The opcode table (R129) -/

/-- `direction` of a row. -/
inductive Direction where
  | hostToDevice
  | deviceToHost
  | hostRegisterWrite
  deriving DecidableEq, Repr

/-- One row of spec/opcode_table.json: `match` and `mask` over the leading bytes, byte 0 leftmost as in the table's strings;
`width_bytes` is their length. -/
structure TableRow where
  mnemonic : String
  direction : Direction
  matchBytes : List Byte
  mask : List Byte
  deriving DecidableEq, Repr

/-- A row for one CMD value. -/
def cmdRow (mnemonic : String) (v : Byte) : TableRow := ⟨mnemonic, .hostRegisterWrite, [v], [0xFF]⟩

/-- A row for the replies whose payload byte 0 is `c`. -/
def replyRow (mnemonic : String) (c : Byte) : TableRow :=
  ⟨mnemonic, .deviceToHost, [0x46, 0xB9, 0x68, 0x00, 0x00, c], [0xFF, 0xFF, 0xFF, 0x00, 0x00, 0xFF]⟩

/-- The row of an instruction. -/
def tableRow : Instr → TableRow
  | .synch => ⟨"SYNCH", .hostToDevice, [0x7F], [0xFF]⟩
  | .baudSet _ _ => ⟨"BAUD_SET", .hostToDevice, [0x46, 0xB9, 0x6A, 0x00, 0x0E, 0x01, 0x00, 0x40],
      [0xFF, 0xFF, 0xFF, 0xFF, 0xFF, 0xFF, 0x00, 0xFF]⟩
  | .baudCheckShort => ⟨"BAUD_CHECK.short", .hostToDevice, [0x46, 0xB9, 0x6A, 0x00, 0x07, 0x05, 0x00, 0x76, 0x16],
      List.replicate 9 0xFF⟩
  | .baudCheckExt => ⟨"BAUD_CHECK.ext", .hostToDevice,
      [0x46, 0xB9, 0x6A, 0x00, 0x0B, 0x05, 0x00, 0x00, 0x5A, 0xA5, 0x01, 0x79, 0x16], List.replicate 13 0xFF⟩
  | .erase => ⟨"ERASE", .hostToDevice,
      [0x46, 0xB9, 0x6A, 0x00, 0x0B, 0x03, 0x00, 0x00, 0x5A, 0xA5, 0x01, 0x77, 0x16], List.replicate 13 0xFF⟩
  | .write _ _ => ⟨"WRITE", .hostToDevice, [0x46, 0xB9, 0x6A, 0x00, 0x00, 0x22, 0x00, 0x00, 0x5A, 0xA5],
      [0xFF, 0xFF, 0xFF, 0x00, 0x00, 0xFF, 0x00, 0x00, 0xFF, 0xFF]⟩
  | .xferFrame _ => ⟨"XFER.frame", .hostToDevice, [0x46, 0xB9, 0x6A], [0xFF, 0xFF, 0xFF]⟩
  | .rIdent _ => ⟨"R.IDENT", .deviceToHost, [0x46, 0xB9, 0x68], [0xFF, 0xFF, 0xFF]⟩
  | .rBaudSet _ => replyRow "R.BAUD_SET" 0x01
  | .rBaudCheck _ => replyRow "R.BAUD_CHECK" 0x05
  | .rErase _ => replyRow "R.ERASE" 0x03
  | .rWrite _ => replyRow "R.WRITE" 0x02
  | .rAny _ => ⟨"R.ANY", .deviceToHost, [0x46, 0xB9, 0x68], [0xFF, 0xFF, 0xFF]⟩
  | .nop => cmdRow "NOP" 0x00
  | .openOp => cmdRow "OPEN" 0x01
  | .close => cmdRow "CLOSE" 0x02
  | .identify => cmdRow "IDENTIFY" 0x03
  | .setbaud => cmdRow "SETBAUD" 0x04
  | .checkbaud => cmdRow "CHECKBAUD" 0x05
  | .eraseOp => cmdRow "ERASE.op" 0x06
  | .writeOp => cmdRow "WRITE.op" 0x07
  | .xfer => cmdRow "XFER" 0x08
  | .reserved9 => cmdRow "RESERVED_9" 0x09
  | .reservedA => cmdRow "RESERVED_A" 0x0A
  | .reservedB => cmdRow "RESERVED_B" 0x0B
  | .reservedC => cmdRow "RESERVED_C" 0x0C
  | .reservedD => cmdRow "RESERVED_D" 0x0D
  | .reservedE => cmdRow "RESERVED_E" 0x0E
  | .clrerr => cmdRow "CLRERR" 0x0F
  | .reservedHi _ => ⟨"RESERVED_HI", .hostRegisterWrite, [0x00], [0x00]⟩

/-- `width_bytes`. -/
def TableRow.widthBytes (r : TableRow) : Nat := r.matchBytes.length

/-- Whether bytes, in transmission order, begin as the row says. RESERVED_HI has a side condition beside it: CMD[7:4] ≠ 0. -/
def TableRow.fits (r : TableRow) (bs : List Byte) : Bool :=
  List.zipWith (· &&& ·) r.mask bs == r.matchBytes

/-- The direction of a channel. -/
def Channel.direction : Channel → Direction
  | .cmd => .hostRegisterWrite
  | .toDevice => .hostToDevice
  | .fromDevice _ => .deviceToHost

/-! ### A word of the opcode table -/

/-- Byte `k` of a number, counted from its lowest eight bits. -/
def wordByte (w k : Nat) : Byte := BitVec.ofNat 8 (w >>> (8 * k))

/-- The bytes of an `nbits`-bit table word in transmission order. R129 writes byte 0 leftmost, that is in the highest bits; a word
that numbers the bits from the first byte on has PREFIX in its lowest eight bits, and is read from there. -/
def wordOrder (nbits w : Nat) : List Byte :=
  let lowFirst := (List.range (nbits / 8)).map (wordByte w)
  if lowFirst.headD 0 = prefixByte then lowFirst else lowFirst.reverse

/-- Zero bytes after the bytes of a frame the word does not reach, as many as its SIZE field asks for. -/
def padFrame (bs : List Byte) : List Byte :=
  if bs.headD 0 = prefixByte ∧ 1 < bs.length then
    bs ++ List.replicate ((be16 (bs.getD 3 0) (bs.getD 4 0)).toNat + 2 - bs.length) 0x00
  else bs

/-- The bytes a table word stands for. -/
def wordBytes (nbits w : Nat) : List Byte := padFrame (wordOrder nbits w)

/-- The first of the channels, in the order given, on which the bytes are exactly one instruction. -/
def firstRow (bs : List Byte) : List Channel → Option Instr
  | [] => none
  | ch :: chs =>
      match decode ch bs with
      | .ok (i, []) => some i
      | _ => firstRow bs chs

/-- The instruction the decoder reads from an opcode-table word. A table word does not say its direction: a longer word is a
frame, the rows tried in the table's order; an 8-bit word is a CMD value, but 7F, which the table lists first as SYNCH (as a
CMD value it is RESERVED_HI, `decodeCmd 0x7F`). DESIGN CHOICE, log 10. -/
def decodeTableWord (nbits w : Nat) : Option Instr :=
  if nbits ≤ 8 then
    if wordByte w 0 = synchByte then some .synch else some (decodeCmd (wordByte w 0))
  else
    firstRow (wordBytes nbits w)
      [.toDevice, .fromDevice .identify, .fromDevice .setbaud, .fromDevice .checkbaud, .fromDevice .erase,
        .fromDevice .write, .fromDevice .xfer]

end Sys2Proof
end

