-- ==== Sys2Proof/Config.lean ====
section
/-!
DEFINITION. What the block takes as parameters (R6 to R9, R346; the list of OPEN parameters in 92_eei_decisions.md) and the
free values that stand for the environment's choices (R255). Opaque constants have no body: no proof can see a value.
-/

namespace Sys2Proof

/-- `OSC_BASE`, the divider base in Hz (R6). -/
opaque Config.oscBase : Nat

/-- `BAUD_INIT_RESET` (R32). -/
opaque Config.baudInitReset : W32

/-- `BAUD_TGT_RESET` (R33). -/
opaque Config.baudTgtReset : W32

/-- `PORT`, the opaque platform value passed to the transport's open (R8). -/
opaque Config.port : Nat

/-- `T_SHORT`, a duration no rule depends on (R7). -/
opaque Config.tShort : Nat

/-- `T_LONG`, a duration no rule depends on (R7). -/
opaque Config.tLong : Nat

/-- The rows of `CATALOG` the source does not print: name and flash size by identifier (R9, R46). -/
opaque Config.catalogOther : W16 → Option (String × W32)

/-- `CATALOG` (R9, R46): the printed row, and the others as a parameter. A function of the identifier, so identifiers are unique;
flash sizes are 32 bits wide, so below 2^32. -/
def Config.catalog (id : W16) : Option (String × W32) :=
  if id = 0xF752 then some ("STC8G1K04-20/16P", 4096) else Config.catalogOther id

/-- FREE VALUE: the answer to a read that no event answers and RXQ cannot: a byte, or none for the timeout (R91, R255; log 5). -/
opaque Config.lineAnswer : Nat → Option Byte

/-- FREE VALUE: the answer to a pending TpOpen that no event answers, true for ok (R251, R255; log 5). -/
opaque Config.openAnswer : Nat → Bool

/-- FREE VALUE: the unspecified contents of RXQ after a reset (R45, R52; log 5). -/
opaque Config.staleInput : Nat → List Byte

end Sys2Proof
end

