-- ==== Sys2Proof/Machine/State.lean ====
section
/-!
DEFINITION. The state of the block as plain data (10_state.md), the events of the outside world (60_exceptions.md R310), the
failure kinds (R290) and the reasons a step can stop.
-/

namespace Sys2Proof.Machine

/-- `phase` of R40. -/
inductive Phase where
  | idle
  | opening
  | probe
  | tx
  | rx
  | finish
  deriving DecidableEq, Repr

/-- `rxs` of R40, the field DECODE is reading. -/
inductive RxField where
  | sPrefix
  | sHdr
  | sSize
  | sPayload
  | sChk
  | sSuffix
  deriving DecidableEq, Repr

/-- The host registers HR0 to HR16 (R21). -/
inductive HReg where
  | cmd
  | status
  | err
  | errInfo
  | baudInit
  | baudTgt
  | wait
  | addr
  | txlen
  | rxlen
  | baudCur
  | fosc
  | chipId
  | chipVer
  | flashSz
  | count
  | iter
  deriving DecidableEq, Repr

/-- DETAIL of ProtocolFraming (R293). -/
inductive FramingDetail where
  | header
  | suffix
  | trunc
  | size
  | shortReply
  deriving DecidableEq, Repr

/-- DETAIL of CommandRejected (R297). -/
inductive RejectedDetail where
  | mismatch
  | noReply
  | empty
  deriving DecidableEq, Repr

/-- DETAIL of Refused (R299). -/
inductive RefusedDetail where
  | badOp
  | notOpen
  | alreadyOpen
  | noSession
  | sessionExists
  | tooLong
  | divisorRange
  deriving DecidableEq, Repr

/-- The failure kinds of the block (R290). A failure is an effect (`raise`), not a stop of the model. -/
inductive Failure where
  | transportUnavailable
  | handshakeTimeout
  | framing (d : FramingDetail)
  | checksum
  | unsupportedDevice
  | rejected (d : RejectedDetail)
  | capacity
  | refused (d : RefusedDetail)
  deriving DecidableEq, Repr

/-- A call of a transport primitive that changes something (R251); reads are taken from RXQ. -/
inductive TpCall where
  /-- `TpOpen(port)`. -/
  | openPort (port : Nat)
  /-- `TpClose()`. -/
  | close
  /-- `TpSetBaud(v)`. -/
  | setBaud (v : W32)
  /-- `TpSetTimeout(LONG)` if true, `TpSetTimeout(SHORT)` if false. -/
  | setTimeout (long : Bool)
  /-- `TpFlush()`. -/
  | flush
  /-- One byte of a `TpWrite`. -/
  | write (b : Byte)
  deriving DecidableEq, Repr

/-- What the outside world does (R310): E1 read results and the bytes that lead to them, E2 the answer to TpOpen, E3 and E4
host writes, E5 reset. `tick` says that the block takes one byte-level step first. -/
inductive Event where
  /-- The host writes a register; a write to CMD is an instruction. -/
  | writeReg (r : HReg) (v : W32)
  /-- The host writes one byte of TXBUF. -/
  | load (index : Nat) (b : Byte)
  /-- The line delivers these bytes, with nothing else in between. -/
  | receive (bytes : List Byte)
  /-- The timeout of the pending read expires. -/
  | timeout
  /-- The transport answers the pending TpOpen. -/
  | openAnswer (ok : Bool)
  /-- Hardware reset. -/
  | reset
  | tick
  deriving DecidableEq, Repr

/-- Cells of a byte buffer in rising order of index; an index that is not listed holds no value (R54; log 2). -/
abbrev Memory := List Host.Cell

/-- Why a step stops. -/
inductive Fault where
  /-- Raised by WRITE.op and XFER when TXBUF[0 : TXLEN) holds a byte the host never wrote (R42, R54). DESIGN CHOICE, log 2. Safe. -/
  | txUnwritten
  /-- Raised by a host write to TXBUF at an index of 65,529 or more, which does not exist (R42). DESIGN CHOICE, log 27. Safe. -/
  | noSuchByte
  /-- Raised when an operation ends on a reply whose payload is not all in RXBUF; no run reaches it. Safe. -/
  | rxUnwritten
  /-- Raised when a staged payload has more than 65,529 bytes, where R141 leaves the frame undefined; no run reaches it.
  Safe. -/
  | payloadTooLong
  deriving DecidableEq, Repr

/-- Why an instruction is refused by the model. -/
inductive Refusal where
  /-- Raised by an arm of `exec` that has no meaning yet; no arm is left in that case. Safe. -/
  | notModelled (mnemonic : String)
  deriving DecidableEq, Repr

structure State where
  -- STATUS (HR1, R23), one flag a field; OPEN and TMO_LONG are also `tp_open` and `tp_timeout` (R48)
  busy : Bool
  opened : Bool
  session : Bool
  done : Bool
  err : Bool
  tmoLong : Bool
  -- the other host registers (R24 to R39)
  errReg : Byte
  errInfo : W16
  baudInit : W32
  baudTgt : W32
  wait : W16
  addr : W16
  txlen : W16
  rxlen : W16
  /-- Also `tp_baud` (R48). -/
  baudCur : W32
  fosc : W32
  chipId : W16
  chipVer : W24
  flashSz : W32
  count : W16
  iter : W24
  chipName : String
  -- the sequencer position (R40); ITER is above
  op : Op
  phase : Phase
  txi : Nat
  rxs : RxField
  rxcnt : Nat
  -- the hidden codec state (R47)
  txacc : W16
  rxacc : W16
  rxhdr0 : Byte
  rxhdr1 : Byte
  rxsize : W16
  rxchk : W16
  rxsuf : Byte
  staged : List Byte
  expect : Option Byte
  -- the buffers and the transport's input queue, oldest byte first (R42, R43, R45)
  txbuf : Memory
  rxbuf : Memory
  rxq : List Byte
  -- the model's own (DESIGN CHOICE, log 8): IDENTIFY has counted this iteration and its probe is due (R192)
  counted : Bool
  -- the model's own (DESIGN CHOICE, log 7): every call made on the transport, oldest first
  out : List TpCall
  -- the model's own (DESIGN CHOICE, log 6): what the outside world does next, oldest first (R310)
  inbox : List Event
  -- the model's own (DESIGN CHOICE, log 5): which free value is next
  fresh : Nat
  deriving DecidableEq, Repr

/-- The block after hardware reset (R52). The hidden codec state is zero (DESIGN CHOICE, log 3), RXQ is a free value
(log 5). -/
def State.reset : State where
  busy := false
  opened := false
  session := false
  done := false
  err := false
  tmoLong := false
  errReg := 0
  errInfo := 0
  baudInit := Config.baudInitReset
  baudTgt := Config.baudTgtReset
  wait := 10
  addr := 0
  txlen := 0
  rxlen := 0
  baudCur := 0
  fosc := 0
  chipId := 0
  chipVer := 0
  flashSz := 0
  count := 0
  iter := 0
  chipName := ""
  op := .nothing
  phase := .idle
  txi := 0
  rxs := .sPrefix
  rxcnt := 0
  txacc := 0
  rxacc := 0
  rxhdr0 := 0
  rxhdr1 := 0
  rxsize := 0
  rxchk := 0
  rxsuf := 0
  staged := []
  expect := none
  txbuf := []
  rxbuf := []
  rxq := Config.staleInput 0
  counted := false
  out := []
  inbox := []
  fresh := 1

end Sys2Proof.Machine
end

