-- ==== Sys2Proof/Machine/Ops.lean ====
section
/-!
DEFINITION. The named operations over memory and registers, the transport primitives (R251), failure entry `raise` (R300 to
R303) and the ways out of it and of an operation: completion (R267), abort (R264), CLRERR (R265), command acceptance (R260) and
hardware reset (R52).
-/

namespace Sys2Proof.Machine

/-! ### Byte buffers (R42, R43) -/

/-- The size of TXBUF and of RXBUF in bytes (R42, R43). -/
def bufSize : Nat := 65529

/-- One byte of a buffer; `none` is a byte that holds no value (R54). -/
def Memory.read (m : Memory) (a : Nat) : Option Byte :=
  match m with
  | [] => none
  | (x, v) :: rest => if x = a then some v else Memory.read rest a

/-- Store one byte, keeping the cells in rising order of index. -/
def Memory.write (m : Memory) (a : Nat) (b : Byte) : Memory :=
  match m with
  | [] => [(a, b)]
  | (x, v) :: rest =>
      if a < x then (a, b) :: (x, v) :: rest
      else if a = x then (a, b) :: rest
      else (x, v) :: Memory.write rest a b

/-- `MemRead(space, a, n)` (R13): the n bytes from index a, or none if one of them holds no value. -/
def Memory.readRange (m : Memory) (a : Nat) : Nat → Option (List Byte)
  | 0 => some []
  | n + 1 =>
      match Memory.read m a, Memory.readRange m (a + 1) n with
      | some b, some bs => some (b :: bs)
      | _, _ => none

/-- The canonical form: indices strictly rising, all below the size of the buffer. -/
abbrev Memory.wf (m : Memory) : Prop :=
  m.Pairwise (fun c d => c.1 < d.1) ∧ ∀ c ∈ m, c.1 < bufSize

/-! ### Transport primitives (R251) -/

/-- Append calls to the record of what the block did to the transport. -/
def emit (calls : List TpCall) (s : State) : State :=
  { s with out := s.out ++ calls }

/-- The bytes handed to the transport, in order: the line, host to device (R70, R75). -/
def lineBytes (calls : List TpCall) : List Byte :=
  calls.filterMap fun
    | .write b => some b
    | _ => none

/-- `TpSetBaud(v)`, and BAUD_CUR, which mirrors it (R30, R48). -/
def tpSetBaud (v : W32) (s : State) : State :=
  { s with out := s.out ++ [.setBaud v], baudCur := v }

/-- `TpSetTimeout`, and STATUS.TMO_LONG, which mirrors it (R23, R48). -/
def tpSetTimeout (long : Bool) (s : State) : State :=
  { s with out := s.out ++ [.setTimeout long], tmoLong := long }

/-- `TpFlush()`: RXQ becomes empty (R88). -/
def tpFlush (s : State) : State :=
  { s with out := s.out ++ [.flush], rxq := [] }

/-- The period of the read timeout now selected (R7); no rule depends on it. -/
def readTimeout (s : State) : Nat :=
  if s.tmoLong then Config.tLong else Config.tShort

/-- `if STATUS.OPEN = 1: TpClose()`, then `STATUS.OPEN <- 0 ; STATUS.SESSION <- 0` (R263, R301). Closing loses pending input
(R251). -/
def closeLink (s : State) : State :=
  { s with
    out := if s.opened then s.out ++ [.close] else s.out
    rxq := if s.opened then [] else s.rxq
    opened := false
    session := false }

/-! ### Failure entry (R300 to R303) -/

/-- KIND of a failure (R290). -/
def Failure.kind : Failure → Byte
  | .transportUnavailable => 1
  | .handshakeTimeout => 2
  | .framing _ => 3
  | .checksum => 4
  | .unsupportedDevice => 5
  | .rejected _ => 6
  | .capacity => 7
  | .refused _ => 8

/-- DETAIL of a failure (R293, R297, R299). -/
def Failure.detail : Failure → Byte
  | .framing .header => 1
  | .framing .suffix => 2
  | .framing .trunc => 3
  | .framing .size => 4
  | .framing .shortReply => 5
  | .rejected .mismatch => 1
  | .rejected .noReply => 2
  | .rejected .empty => 3
  | .refused .badOp => 1
  | .refused .notOpen => 2
  | .refused .alreadyOpen => 3
  | .refused .noSession => 4
  | .refused .sessionExists => 5
  | .refused .tooLong => 6
  | .refused .divisorRange => 7
  | _ => 0

/-- `ERR = (DETAIL << 4) | KIND` (R290). -/
def Failure.code (f : Failure) : Byte := (f.detail <<< 4) ||| f.kind

/-- Fatal kinds: all but HandshakeTimeout and Refused (R290, R301). -/
def Failure.fatal : Failure → Bool
  | .handshakeTimeout => false
  | .refused _ => false
  | _ => true

/-- What every kind of failure writes (R300). -/
def recordFailure (f : Failure) (info : W16) (s : State) : State :=
  { s with
    errReg := f.code
    errInfo := info
    err := true
    busy := false
    done := false
    op := .nothing
    phase := .idle }

/-- `raise K(detail, info)` (R300): the record, and for a fatal kind the link is closed (R301); HandshakeTimeout and Refused
leave it as it was (R302, R303). -/
def raise (f : Failure) (info : W16) (s : State) : State :=
  if f.fatal then closeLink (recordFailure f info s) else recordFailure f info s

/-- CLRERR (R265), the way back from a failure. -/
def clearErr (s : State) : State :=
  { s with errReg := 0, errInfo := 0, err := false, done := false }

/-! ### The end of an operation -/

/-- `complete` (R267): DONE, BUSY and op in one step. -/
def complete (s : State) : State :=
  { s with done := true, busy := false, op := .nothing, phase := .idle }

/-- Whether the block holds a port: an open one, or the one a pending TpOpen has obtained, which only the transport knows (R264,
R341): a free value (log 20). -/
def portHeld (s : State) : Bool :=
  s.opened || (decide (s.phase = .opening) && Config.openAnswer s.fresh)

/-- CLOSE while BUSY = 1 (R264): the operation stops here, the port is released, and DONE is set for the CLOSE. -/
def abort (s : State) : State :=
  { s with
    out := if portHeld s then s.out ++ [.close] else s.out
    rxq := if portHeld s then [] else s.rxq
    opened := false
    session := false
    busy := false
    op := .nothing
    phase := .idle
    done := true
    fresh := if s.phase = .opening then s.fresh + 1 else s.fresh }

/-! ### Command acceptance (R260) -/

/-- A CMD write of the value `v`: dropped or an abort while BUSY, dropped or CLRERR while ERR, else DONE is cleared and `run`
tests the operation's own preconditions and accepts or refuses it. -/
def onCmd (v : Byte) (run : State → Host.Outcome State Fault Refusal) (s : State) : Host.Outcome State Fault Refusal :=
  if s.busy then
    if v = 0x02 then .next (abort s) else .next s
  else if s.err then
    if v = 0x0F then .next (clearErr s) else .next s
  else run { s with done := false }

/-- A CMD value whose high nibble is not zero or whose OP is reserved: `raise Refused(BAD_OP, v)` (R260, R299). -/
def refuseOp (v : Byte) (s : State) : Host.Outcome State Fault Refusal :=
  onCmd v (fun s => .next (raise (.refused .badOp) (v.setWidth 16) s)) s

/-! ### Host access other than CMD -/

/-- A host write to a register other than CMD: ignored while BUSY (R50), and by a read-only register (R21; DEDUCED, log 18); an RW
register holds what was written, truncated to its width (R51). -/
def writeReg (r : HReg) (v : W32) (s : State) : State :=
  if s.busy then s
  else
    match r with
    | .baudInit => { s with baudInit := v }
    | .baudTgt => { s with baudTgt := v }
    | .wait => { s with wait := v.setWidth 16 }
    | .addr => { s with addr := v.setWidth 16 }
    | .txlen => { s with txlen := v.setWidth 16 }
    | _ => s

/-- A host write of one byte of TXBUF (R42): ignored while BUSY (R50). -/
def loadByte (i : Nat) (b : Byte) (s : State) : Host.Outcome State Fault Refusal :=
  if s.busy then .next s
  else if i < bufSize then .next { s with txbuf := s.txbuf.write i b }
  else .fault .noSuchByte

/-- Hardware reset (R52, R341): every register at its reset value, RXQ unspecified, a port that is held released. What the outside
world does next and the record of transport calls are not the block's and go on (DESIGN CHOICE, log 21). -/
def hwReset (s : State) : State :=
  { State.reset with
    rxq := Config.staleInput s.fresh
    out := if portHeld s then s.out ++ [.close] else s.out
    inbox := s.inbox
    fresh := s.fresh + 1 }

end Sys2Proof.Machine
end

