-- ==== Sys2Proof/Machine/Operands.lean ====
section
/-!
DEFINITION. What the operations compute from their operands: the divider (R211, R212), the capacity and length tests (R143,
R232), the BAUD_CHECK form (R217), the sampled data of TXBUF (R86), and the fields of the identification reply (R187, R188).
-/

namespace Sys2Proof.Machine

/-! ### The divider -/

/-- `q = floor(base / (4 * baud))` (R211); the product is not truncated. -/
def divisorQuotient (base baud : Nat) : Nat := base / (4 * baud)

/-- `count = 65536 - q`, an integer that may fall outside 16 bits (R211). -/
def divisorCount (base baud : Nat) : Int := 65536 - (divisorQuotient base baud : Int)

/-- The range test of SETBAUD (R212): `baud ≠ 0` and `0 ≤ count ≤ 65535`. -/
def divisorOk (base baud : Nat) : Bool :=
  decide (baud ≠ 0) && decide (0 ≤ divisorCount base baud) && decide (divisorCount base baud ≤ 65535)

/-- COUNT, the 16 bits of an in-range count (R213). -/
def divisorCount16 (base baud : Nat) : W16 := BitVec.ofInt 16 (divisorCount base baud)

/-! ### Tests on the operands of WRITE and XFER -/

/-- The capacity test of WRITE on unbounded naturals (R232, conflict C7): true when the block does not fit. -/
def exceedsCapacity (s : State) : Bool := decide (s.addr.toNat + s.txlen.toNat > s.flashSz.toNat)

/-- The encodability test (R143) for a payload with `extra` bytes in front of TXBUF[0 : TXLEN). -/
def tooLong (extra : Nat) (s : State) : Bool := decide (s.txlen.toNat + extra > maxPayload)

/-- `MemRead(TXBUF, 0, TXLEN)` (R86): none if one of the bytes was never written (R42). -/
def txData (s : State) : Option (List Byte) := s.txbuf.readRange 0 s.txlen.toNat

/-! ### The chip version (R27) -/

/-- CHIPVER.VER. -/
def verByte (chipVer : W24) : Byte := chipVer.extractLsb' 0 8
/-- CHIPVER.STEP. -/
def stepByte (chipVer : W24) : Byte := chipVer.extractLsb' 8 8
/-- CHIPVER.MINOR. -/
def minorByte (chipVer : W24) : Byte := chipVer.extractLsb' 16 8

/-- The BAUD_CHECK payload: extended from version 0x72 on, compared as unsigned bytes (R217). -/
def checkPayload (chipVer : W24) : List Byte :=
  if 0x72 ≤ (verByte chipVer).toNat then checkExtPayload else checkShortPayload

/-- The version string `major.minor.patch+stepping`, its numbers in decimal (R188); for display, read by nothing (log 26). -/
def versionString (chipVer : W24) : String :=
  toString ((verByte chipVer) >>> 4).toNat ++ "." ++ toString ((verByte chipVer) &&& 0xF).toNat ++ "."
    ++ toString ((minorByte chipVer) &&& 0xF).toNat ++ "+" ++ String.singleton (Char.ofNat (stepByte chipVer).toNat)

/-! ### The identification reply -/

/-- The shortest identification payload IDENTIFY accepts (R183). -/
def identLength : Nat := 23

/-- Payload byte `i`, counted from 0 (R187). -/
def payloadByte (p : List Byte) (i : Nat) : Byte := p.getD i 0

/-- Oscillator frequency: bytes 1 to 4, big-endian (R187). -/
def identFosc (p : List Byte) : W32 :=
  be32 (payloadByte p 1) (payloadByte p 2) (payloadByte p 3) (payloadByte p 4)

/-- Chip identifier: bytes 20 and 21, big-endian (R187). -/
def identId (p : List Byte) : W16 := be16 (payloadByte p 20) (payloadByte p 21)

/-- `(minor << 16) | (step << 8) | ver` from bytes 22, 18 and 17 (R183, R187). -/
def identVer (p : List Byte) : W24 :=
  ((payloadByte p 22).setWidth 24 <<< 16) ||| ((payloadByte p 18).setWidth 24 <<< 8) ||| (payloadByte p 17).setWidth 24

/-! ### What an operation expects back -/

/-- `expect`, the value of reply payload byte 0, none for XFER and for the operations without an exchange (R47 e, R111). -/
def expectOf : Op → Option Byte
  | .setbaud => some 0x01
  | .checkbaud => some 0x05
  | .erase => some 0x03
  | .write => some 0x02
  | _ => none

end Sys2Proof.Machine
end

