-- ==== Sys2Proof/Machine/Flags.lean ====
section
/-!
DEFINITION. The flags as the host sees them: STATUS as one byte (R23), host reads of registers and buffers (R21, R54), and the
reply check, whose only trace is ERR (R41, R161).
-/

namespace Sys2Proof.Machine

/-- One flag as a bit of STATUS. -/
def flagBit (f : Bool) (bit : Nat) : Byte := if f then 1 <<< bit else 0

/-- STATUS (HR1, R23): BUSY, OPEN, SESSION, DONE, ERR and TMO_LONG in bits 0 to 5; bits 7:6 read as 0. -/
def statusByte (s : State) : Byte :=
  flagBit s.busy 0 ||| flagBit s.opened 1 ||| flagBit s.session 2 ||| flagBit s.done 3 ||| flagBit s.err 4
    ||| flagBit s.tmoLong 5

/-- A session register as the host reads it: no value while SESSION = 0 (R31, R54). -/
def sessionValue (v : W32) (s : State) : Option W32 := if s.session then some v else none

/-- A host read of a register: its value zero-extended (R21); CMD reads 0 (R22); the session registers have a value only within a
session (R54). It changes nothing (R75; log 23). -/
def readReg (r : HReg) (s : State) : Option W32 :=
  match r with
  | .cmd => some 0
  | .status => some ((statusByte s).setWidth 32)
  | .err => some (s.errReg.setWidth 32)
  | .errInfo => some (s.errInfo.setWidth 32)
  | .baudInit => some s.baudInit
  | .baudTgt => some s.baudTgt
  | .wait => some (s.wait.setWidth 32)
  | .addr => some (s.addr.setWidth 32)
  | .txlen => some (s.txlen.setWidth 32)
  | .rxlen => some (s.rxlen.setWidth 32)
  | .baudCur => some s.baudCur
  | .fosc => sessionValue s.fosc s
  | .chipId => sessionValue (s.chipId.setWidth 32) s
  | .chipVer => sessionValue (s.chipVer.setWidth 32) s
  | .flashSz => sessionValue s.flashSz s
  | .count => some (s.count.setWidth 32)
  | .iter => some (s.iter.setWidth 32)

/-- The register number of HR0 to HR16 (R21). -/
def HReg.number : HReg → Nat
  | .cmd => 0
  | .status => 1
  | .err => 2
  | .errInfo => 3
  | .baudInit => 4
  | .baudTgt => 5
  | .wait => 6
  | .addr => 7
  | .txlen => 8
  | .rxlen => 9
  | .baudCur => 10
  | .fosc => 11
  | .chipId => 12
  | .chipVer => 13
  | .flashSz => 14
  | .count => 15
  | .iter => 16

/-- A host read of RXBUF: bytes from RXLEN on are unspecified and have no value here (R43, R54). -/
def readRxbuf (i : Nat) (s : State) : Option Byte :=
  if i < s.rxlen.toNat then s.rxbuf.read i else none

/-- A host read of TXBUF, which the host can read while BUSY = 0 (R42). -/
def readTxbuf (i : Nat) (s : State) : Option Byte :=
  if s.busy then none else s.txbuf.read i

/-- CHECKREPLY on a frame (R161) and, on success, completion: an empty payload, then a first byte other than the expected one. -/
def checkReply (p : List Byte) (e : Byte) (s : State) : State :=
  match p with
  | [] => raise (.rejected .empty) 0 s
  | q :: _ => if q = e then complete s else raise (.rejected .mismatch) (q.setWidth 16) s

end Sys2Proof.Machine
end

