-- ==== Sys2Proof/Machine/Codec.lean ====
section
/-!
DEFINITION. The frame codec inside the block (40_frame_codec.md): starting an exchange, SEND at operation level and byte by byte
(R144), and DECODE as the byte machine of R157, with what each caller does on NoFrame (R151, R161, R184, R266).
-/

namespace Sys2Proof.Machine

/-! ### SEND -/

/-- An operation is accepted and its request payload is fixed (R86, R260): BUSY, op, the staged payload, the expected reply, and
the first byte of the frame next. -/
def startExchange (o : Op) (p : List Byte) (s : State) : State :=
  { s with
    busy := true
    op := o
    phase := .tx
    txi := 0
    txacc := 0
    staged := p
    expect := expectOf o }

/-- Entry of DECODE (R150, R157): RXLEN to 0, the timeout of the first read, the codec state initialised. -/
def startDecode (long : Bool) (s : State) : State :=
  { tpSetTimeout long s with
    phase := .rx
    rxs := .sPrefix
    rxcnt := 0
    rxacc := rxCode.setWidth 16
    rxsize := 0
    rxchk := 0
    rxlen := 0 }

/-- A byte added to a 16-bit wrapping checksum accumulator (R47, R144). -/
def addByte (acc : W16) (b : Byte) : W16 := acc + b.setWidth 16

/-- Byte `k` of the frame being sent and the accumulator after it: one line of the table of R144. -/
def frameByte (p : List Byte) (k : Nat) (acc : W16) : Byte × W16 :=
  if k = 0 then (prefixByte, acc)
  else if k = 1 then (prefixByte ^^^ 0xFF, acc)
  else if k = 2 then (txCode, addByte acc txCode)
  else if k = 3 then (hi (sizeField p), addByte acc (hi (sizeField p)))
  else if k = 4 then (lo (sizeField p), addByte acc (lo (sizeField p)))
  else if k < 5 + p.length then (p.getD (k - 5) 0, addByte acc (p.getD (k - 5) 0))
  else if k = 5 + p.length then (hi acc, acc)
  else if k = 6 + p.length then (lo acc, acc)
  else (suffixByte, acc)

/-- SEND, one byte event (R144, byte level); after the last byte DECODE(LONG) begins (R160). R144 and R40 give txi no value beyond
L + 7; after the last byte the model puts it back to 0. DESIGN CHOICE, log 32. -/
def sendByte (s : State) : State :=
  let r := frameByte s.staged s.txi s.txacc
  if s.staged.length + 7 ≤ s.txi then
    startDecode true { emit [.write r.1] s with txacc := r.2, txi := 0 }
  else { emit [.write r.1] s with txacc := r.2, txi := s.txi + 1 }

/-- Whether the block is handing over the frame of this payload. -/
def sending (p : List Byte) (s : State) : Bool :=
  s.busy && decide (s.phase = .tx) && decide (s.staged = p)

/-- SEND(p) at operation level (R144): the bytes of the frame not yet handed over go out as one write (R76 a), and DECODE(LONG)
begins (R160). The block never sends what no operation has staged (R80 O5): then nothing happens
(DESIGN CHOICE, log 9). txi ends at 0, as in `sendByte` (DESIGN CHOICE, log 32). -/
def sendFrame (p : List Byte) (s : State) : Host.Outcome State Fault Refusal :=
  if sending p s then
    if p.length ≤ maxPayload then
      .next (startDecode true
        { emit (((encodeFrame txCode p).drop s.txi).map .write) s with txacc := chksum txCode p, txi := 0 })
    else .fault .payloadTooLong
  else .next s

/-! ### DECODE -/

/-- DECODE answered NoFrame: IDENTIFY goes round its loop (R184), any other operation fails with NO_REPLY (R161, R266). -/
def noFrame (s : State) : State :=
  if s.op = .identify then { s with phase := .probe } else raise (.rejected .noReply) 0 s

/-- S_PREFIX on a byte (R157). -/
def takePrefix (b : Byte) (s : State) : State :=
  if b = prefixByte then { tpSetTimeout true s with rxs := .sHdr, rxcnt := 0 } else noFrame s

/-- S_HDR on a byte (R152, R157): both bytes are read before either is compared. -/
def takeHeader (b : Byte) (s : State) : State :=
  if s.rxcnt = 0 then { s with rxhdr0 := b, rxcnt := 1 }
  else if s.rxhdr0 = prefixByte ^^^ 0xFF ∧ b = rxCode then { s with rxhdr1 := b, rxs := .sSize, rxcnt := 0 }
  else raise (.framing .header) (be16 s.rxhdr0 b) { s with rxhdr1 := b, rxcnt := 2 }

/-- `v × 256 + b` in 16 bits: the next byte of a big-endian field (R157). -/
def shiftIn (v : W16) (b : Byte) : W16 := be16 (lo v) b

/-- S_SIZE on a byte (R153, R157). -/
def takeSize (b : Byte) (s : State) : State :=
  let s1 := { s with rxsize := shiftIn s.rxsize b, rxacc := addByte s.rxacc b, rxcnt := s.rxcnt + 1 }
  if s.rxcnt = 0 then s1
  else if s1.rxsize.toNat < 6 then raise (.framing .size) s1.rxsize s1
  else if s1.rxsize.toNat = 6 then { s1 with rxs := .sChk, rxcnt := 0 }
  else { s1 with rxs := .sPayload, rxcnt := 0 }

/-- S_PAYLOAD on a byte (R43, R157): stored to RXBUF as it is read. -/
def takePayload (b : Byte) (s : State) : State :=
  let s1 := { s with
    rxbuf := s.rxbuf.write s.rxcnt b
    rxacc := addByte s.rxacc b
    rxlen := BitVec.ofNat 16 (s.rxcnt + 1)
    rxcnt := s.rxcnt + 1 }
  if s.rxcnt + 1 = s.rxsize.toNat - 6 then { s1 with rxs := .sChk, rxcnt := 0 } else s1

/-- S_CHK on a byte (R157). The table of R157 does not say what rxcnt is on entering S_SUFFIX; the model puts it to 0, the number of
bytes of that field read so far (R40). DEDUCED, log 31. -/
def takeChk (b : Byte) (s : State) : State :=
  let s1 := { s with rxchk := shiftIn s.rxchk b, rxcnt := s.rxcnt + 1 }
  if s.rxcnt = 0 then s1 else { s1 with rxs := .sSuffix, rxcnt := 0 }

/-- S_SUFFIX on a byte (R155, R157): the checksum is tested first; on success the frame is complete. rxcnt stays 0 (log 31). -/
def takeSuffix (b : Byte) (s : State) : State :=
  let s1 := { s with rxsuf := b }
  if s.rxacc ≠ s.rxchk then raise .checksum s.rxchk s1
  else if b ≠ suffixByte then raise (.framing .suffix) (b.setWidth 16) s1
  else { s1 with phase := .finish }

/-- One byte answers the pending read (R157). -/
def takeByte (b : Byte) (s : State) : State :=
  match s.rxs with
  | .sPrefix => takePrefix b s
  | .sHdr => takeHeader b s
  | .sSize => takeSize b s
  | .sPayload => takePayload b s
  | .sChk => takeChk b s
  | .sSuffix => takeSuffix b s

/-- The timeout answers the pending read: NoFrame at the first read, TRUNC after it (R151, R154, R157). -/
def takeTimeout (s : State) : State :=
  if s.rxs = .sPrefix then noFrame s else raise (.framing .trunc) 0 s

/-- A read is pending (R310 E1). -/
def reading (s : State) : Bool := s.busy && decide (s.phase = .rx)

/-- The block takes the bytes waiting in RXQ, at most `n` of them, as long as a read is pending. -/
def drain : Nat → State → State
  | 0, s => s
  | n + 1, s =>
      match s.rxq with
      | [] => s
      | b :: rest => if reading s then drain n (takeByte b { s with rxq := rest }) else s

end Sys2Proof.Machine
end

