-- ==== Sys2Proof/Machine/Conclude.lean ====
section
/-!
DEFINITION. What an operation does once a whole good frame is in RXBUF (phase FINISH, R40): IDENTIFY parses it and creates the
session (R183), a command checks the reply (R161), XFER completes (R266); and the arrival of bytes from the line, which are taken
as far as reads are pending (R310).
-/

namespace Sys2Proof.Machine

/-- IDENTIFY on Frame(p) (R183) with the CATALOG given: a short payload, then an identifier that is not in it, then the session,
whose registers and flag change together (R31, R76 b). -/
def identifiedWith (catalog : W16 → Option (String × W32)) (p : List Byte) (s : State) : State :=
  if p.length < identLength then raise (.framing .shortReply) (BitVec.ofNat 16 p.length) s
  else
    match catalog (identId p) with
    | none => raise .unsupportedDevice (identId p) s
    | some (name, size) =>
        complete
          { s with
            fosc := identFosc p
            chipId := identId p
            chipVer := identVer p
            flashSz := size
            chipName := name
            session := true }

/-- IDENTIFY on Frame(p) with the block's CATALOG. -/
def identified (p : List Byte) (s : State) : State := identifiedWith Config.catalog p s

/-- The end of an exchange whose DECODE returned Frame(p), with `p = RXBUF[0 : RXLEN)` (R43). -/
def finish (s : State) : Host.Outcome State Fault Refusal :=
  match s.rxbuf.readRange 0 s.rxlen.toNat with
  | none => .fault .rxUnwritten
  | some p =>
      if s.op = .identify then .next (identified p s)
      else
        match s.expect with
        | none => .next (complete s)
        | some e => .next (checkReply p e s)

/-- The operation ends at once if its frame is complete. -/
def settle (s : State) : Host.Outcome State Fault Refusal :=
  if s.busy && decide (s.phase = .finish) then finish s else .next s

/-- Bytes arrive from the line with nothing in between: they queue in RXQ (R45, R81), the block takes what its pending reads take,
and a complete frame ends the operation. While no read is pending they wait (R310; log 14). Where no port is held they are lost, a
read result that a CLOSE has overtaken among them (R313; DEDUCED, log 12). -/
def arrive (bytes : List Byte) (s : State) : Host.Outcome State Fault Refusal :=
  if portHeld s then settle (drain (s.rxq.length + bytes.length) { s with rxq := s.rxq ++ bytes }) else .next s

end Sys2Proof.Machine
end

