-- ==== Sys2Proof/Machine/Baud.lean ====
section
/-!
DEFINITION. Baud negotiation (42_baud.md): SETBAUD, CHECKBAUD, their frames and their replies.
-/

namespace Sys2Proof.Machine

/-- SETBAUD (R214) with OSC_BASE given: NOT_OPEN, NO_SESSION, DIVISOR_RANGE; else COUNT is recorded and BAUD_SET staged. The
divider comes from OSC_BASE, not from FOSC, whose low byte alone is sent (R215). -/
def setbaudWith (base : Nat) (s : State) : Host.Outcome State Fault Refusal :=
  onCmd 0x04
    (fun s =>
      if !s.opened then .next (raise (.refused .notOpen) 0 s)
      else if !s.session then .next (raise (.refused .noSession) 0 s)
      else if !divisorOk base s.baudTgt.toNat then .next (raise (.refused .divisorRange) 0 s)
      else
        .next (startExchange .setbaud
          (baudSetPayload (s.fosc.extractLsb' 0 8) (divisorCount16 base s.baudTgt.toNat))
          { s with count := divisorCount16 base s.baudTgt.toNat }))
    s

/-- SETBAUD (R214) with the block's OSC_BASE. -/
def execSetbaud (s : State) : Host.Outcome State Fault Refusal := setbaudWith Config.oscBase s

/-- CHECKBAUD (R218): NOT_OPEN, NO_SESSION; else the local switch (R216), and then BAUD_CHECK in the form the version asks for
(R217). -/
def execCheckbaud (s : State) : Host.Outcome State Fault Refusal :=
  onCmd 0x05
    (fun s =>
      if !s.opened then .next (raise (.refused .notOpen) 0 s)
      else if !s.session then .next (raise (.refused .noSession) 0 s)
      else .next (startExchange .checkbaud (checkPayload s.chipVer) (tpSetBaud s.baudTgt s)))
    s

/-- BAUD_SET (R144, R213): SEND of the staged payload. -/
def execBaudSet (foscLow : Byte) (count : W16) (s : State) : Host.Outcome State Fault Refusal :=
  sendFrame (baudSetPayload foscLow count) s

/-- BAUD_CHECK.short (R108, R144). -/
def execBaudCheckShort (s : State) : Host.Outcome State Fault Refusal := sendFrame checkShortPayload s

/-- BAUD_CHECK.ext (R108, R144). -/
def execBaudCheckExt (s : State) : Host.Outcome State Fault Refusal := sendFrame checkExtPayload s

/-- R.BAUD_SET (R111, R161): a reply whose payload byte 0 is 0x01 arrives. -/
def execRBaudSet (q : List Byte) (s : State) : Host.Outcome State Fault Refusal :=
  arrive (encodeFrame rxCode (0x01 :: q)) s

/-- R.BAUD_CHECK (R111, R161): a reply whose payload byte 0 is 0x05 arrives. -/
def execRBaudCheck (q : List Byte) (s : State) : Host.Outcome State Fault Refusal :=
  arrive (encodeFrame rxCode (0x05 :: q)) s

end Sys2Proof.Machine
end

