-- ==== Sys2Proof/Machine/Flash.lean ====
section
/-!
DEFINITION. Flash commands (43_flash.md): the operations ERASE and WRITE, their frames and their replies.
-/

namespace Sys2Proof.Machine

/-- ERASE.op (R231): NOT_OPEN, NO_SESSION; else ERASE is staged. -/
def execEraseOp (s : State) : Host.Outcome State Fault Refusal :=
  onCmd 0x06
    (fun s =>
      if !s.opened then .next (raise (.refused .notOpen) 0 s)
      else if !s.session then .next (raise (.refused .noSession) 0 s)
      else .next (startExchange .erase erasePayload s))
    s

/-- WRITE.op (R234): NOT_OPEN, NO_SESSION, CapacityExceeded, TOO_LONG, in this order (R240); else WRITE is staged with
TXBUF[0 : TXLEN) as its data. A byte the host never wrote stops the model (R42). -/
def execWriteOp (s : State) : Host.Outcome State Fault Refusal :=
  onCmd 0x07
    (fun s =>
      if !s.opened then .next (raise (.refused .notOpen) 0 s)
      else if !s.session then .next (raise (.refused .noSession) 0 s)
      else if exceedsCapacity s then .next (raise .capacity 0 s)
      else if tooLong 5 s then .next (raise (.refused .tooLong) 0 s)
      else
        match txData s with
        | none => .fault .txUnwritten
        | some d => .next (startExchange .write (writePayload s.addr d) s))
    s

/-- ERASE (R109, R144): SEND of the staged payload. -/
def execErase (s : State) : Host.Outcome State Fault Refusal := sendFrame erasePayload s

/-- WRITE (R110, R144). -/
def execWrite (addr : W16) (data : List Byte) (s : State) : Host.Outcome State Fault Refusal :=
  sendFrame (writePayload addr data) s

/-- R.ERASE (R111, R161): a reply whose payload byte 0 is 0x03 arrives. -/
def execRErase (q : List Byte) (s : State) : Host.Outcome State Fault Refusal :=
  arrive (encodeFrame rxCode (0x03 :: q)) s

/-- R.WRITE (R111, R161): a reply whose payload byte 0 is 0x02 arrives. -/
def execRWrite (q : List Byte) (s : State) : Host.Outcome State Fault Refusal :=
  arrive (encodeFrame rxCode (0x02 :: q)) s

end Sys2Proof.Machine
end

