-- ==== Sys2Proof/Machine/Handshake.lean ====
section
/-!
DEFINITION. The handshake (41_handshake.md): IDENTIFY, its loop, the probe SYNCH, and the identification reply.
-/

namespace Sys2Proof.Machine

/-- IDENTIFY (R183): NOT_OPEN, then SESSION_EXISTS; else ITER is cleared, the input flushed and the probe loop entered. -/
def execIdentify (s : State) : Host.Outcome State Fault Refusal :=
  onCmd 0x03
    (fun s =>
      if !s.opened then .next (raise (.refused .notOpen) 0 s)
      else if s.session then .next (raise (.refused .sessionExists) 0 s)
      else
        .next { tpFlush s with
          busy := true, op := .identify, phase := .probe, counted := false, iter := 0, expect := none })
    s

/-- The loop bound `N = WAIT × 100` on naturals (R182). -/
def iterLimit (s : State) : Nat := s.wait.toNat * 100

/-- The head of the loop (R183): the next iteration is counted, or the budget is spent and HandshakeTimeout is raised (R189,
R190). -/
def nextIteration (s : State) : State :=
  if s.iter.toNat < iterLimit s then { s with iter := s.iter + 1, counted := true }
  else raise .handshakeTimeout 0 s

/-- SYNCH (R181): in an iteration that has just been counted (R192) the probe goes out and DECODE(SHORT) begins. The block sends
no probe at any other moment (R80 O5): then nothing happens (DESIGN CHOICE, log 9). -/
def execSynch (s : State) : Host.Outcome State Fault Refusal :=
  if s.busy && decide (s.phase = .probe) && s.counted then
    .next (startDecode false { emit [.write synchByte] s with counted := false })
  else .next s

/-- R.IDENT (R112, R183): an identification frame with this payload arrives. -/
def execRIdent (p : List Byte) (s : State) : Host.Outcome State Fault Refusal := arrive (encodeFrame rxCode p) s

end Sys2Proof.Machine
end

