-- ==== Sys2Proof/Machine/HostOps.lean ====
section
/-!
DEFINITION. The host operations that are not protocol commands (44_transport_and_host_ops.md): NOP, OPEN, CLOSE, CLRERR, XFER
with its frame and its reply, and the reserved CMD values.
-/

namespace Sys2Proof.Machine

/-- NOP (R261). -/
def execNop (s : State) : Host.Outcome State Fault Refusal :=
  onCmd 0x00 (fun s => .next { s with done := true }) s

/-- OPEN (R262): refused on an open transport; else TpOpen is called and its answer awaited. -/
def execOpen (s : State) : Host.Outcome State Fault Refusal :=
  onCmd 0x01
    (fun s =>
      if s.opened then .next (raise (.refused .alreadyOpen) 0 s)
      else
        .next { emit [.openPort Config.port] s with busy := true, op := .openPort, phase := .opening, expect := none })
    s

/-- The transport answers TpOpen (R262): TransportUnavailable, or the port is held at BAUD_INIT with the short timeout and OPEN
completes. What waits in RXQ when the answer is fail the spec does not say; the model keeps it. DESIGN CHOICE, log 33. -/
def openAnswered (ok : Bool) (s : State) : State :=
  if ok then complete (tpSetTimeout false (tpSetBaud s.baudInit { s with opened := true }))
  else raise .transportUnavailable 0 s

/-- CLOSE (R263); while BUSY = 1 the abort of R264. -/
def execClose (s : State) : Host.Outcome State Fault Refusal :=
  onCmd 0x02 (fun s => .next { closeLink s with done := true }) s

/-- CLRERR (R265). -/
def execClrerr (s : State) : Host.Outcome State Fault Refusal :=
  onCmd 0x0F (fun s => .next (clearErr s)) s

/-- XFER (R266): NOT_OPEN, then TOO_LONG, then one exchange with TXBUF[0 : TXLEN) as the whole payload. A byte the host never
wrote stops the model (R42). -/
def execXfer (s : State) : Host.Outcome State Fault Refusal :=
  onCmd 0x08
    (fun s =>
      if !s.opened then .next (raise (.refused .notOpen) 0 s)
      else if tooLong 0 s then .next (raise (.refused .tooLong) 0 s)
      else
        match txData s with
        | none => .fault .txUnwritten
        | some p => .next (startExchange .xfer p s))
    s

/-- XFER.frame (R144, R266): SEND of the staged payload. -/
def execXferFrame (p : List Byte) (s : State) : Host.Outcome State Fault Refusal := sendFrame p s

/-- R.ANY (R266): a well-formed reply with this payload arrives. -/
def execRAny (p : List Byte) (s : State) : Host.Outcome State Fault Refusal := arrive (encodeFrame rxCode p) s

/-- RESERVED_9 (R260). -/
def execReserved9 (s : State) : Host.Outcome State Fault Refusal := refuseOp 0x09 s
/-- RESERVED_A (R260). -/
def execReservedA (s : State) : Host.Outcome State Fault Refusal := refuseOp 0x0A s
/-- RESERVED_B (R260). -/
def execReservedB (s : State) : Host.Outcome State Fault Refusal := refuseOp 0x0B s
/-- RESERVED_C (R260). -/
def execReservedC (s : State) : Host.Outcome State Fault Refusal := refuseOp 0x0C s
/-- RESERVED_D (R260). -/
def execReservedD (s : State) : Host.Outcome State Fault Refusal := refuseOp 0x0D s
/-- RESERVED_E (R260). -/
def execReservedE (s : State) : Host.Outcome State Fault Refusal := refuseOp 0x0E s
/-- RESERVED_HI, any value with a non-zero high nibble (R260). -/
def execReservedHi (v : Byte) (s : State) : Host.Outcome State Fault Refusal := refuseOp v s

end Sys2Proof.Machine
end

