-- ==== Sys2Proof/Machine/Dispatch.lean ====
section
/-!
DEFINITION. One arm per row of the opcode table, each a direct call of that row's meaning.
-/

namespace Sys2Proof.Machine

def exec (i : Instr) (s : State) : Host.Outcome State Fault Refusal :=
  match i with
  | .synch => Sys2Proof.Machine.execSynch s
  | .baudSet foscLow count => Sys2Proof.Machine.execBaudSet foscLow count s
  | .baudCheckShort => Sys2Proof.Machine.execBaudCheckShort s
  | .baudCheckExt => Sys2Proof.Machine.execBaudCheckExt s
  | .erase => Sys2Proof.Machine.execErase s
  | .write addr data => Sys2Proof.Machine.execWrite addr data s
  | .xferFrame payload => Sys2Proof.Machine.execXferFrame payload s
  | .rIdent payload => Sys2Proof.Machine.execRIdent payload s
  | .rBaudSet tail => Sys2Proof.Machine.execRBaudSet tail s
  | .rBaudCheck tail => Sys2Proof.Machine.execRBaudCheck tail s
  | .rErase tail => Sys2Proof.Machine.execRErase tail s
  | .rWrite tail => Sys2Proof.Machine.execRWrite tail s
  | .rAny payload => Sys2Proof.Machine.execRAny payload s
  | .nop => Sys2Proof.Machine.execNop s
  | .openOp => Sys2Proof.Machine.execOpen s
  | .close => Sys2Proof.Machine.execClose s
  | .identify => Sys2Proof.Machine.execIdentify s
  | .setbaud => Sys2Proof.Machine.execSetbaud s
  | .checkbaud => Sys2Proof.Machine.execCheckbaud s
  | .eraseOp => Sys2Proof.Machine.execEraseOp s
  | .writeOp => Sys2Proof.Machine.execWriteOp s
  | .xfer => Sys2Proof.Machine.execXfer s
  | .reserved9 => Sys2Proof.Machine.execReserved9 s
  | .reservedA => Sys2Proof.Machine.execReservedA s
  | .reservedB => Sys2Proof.Machine.execReservedB s
  | .reservedC => Sys2Proof.Machine.execReservedC s
  | .reservedD => Sys2Proof.Machine.execReservedD s
  | .reservedE => Sys2Proof.Machine.execReservedE s
  | .clrerr => Sys2Proof.Machine.execClrerr s
  | .reservedHi v => Sys2Proof.Machine.execReservedHi v s

end Sys2Proof.Machine
end

