-- ==== Sys2Proof/Machine/Sequencer.lean ====
section
/-!
DEFINITION. What happens next: the bytes of the next instruction and where they come from, the byte-level step of the sequencer
(R40), the events of the outside world (R310), and the placing of an instruction where it is fetched.
-/

namespace Sys2Proof.Machine

/-- The bytes of the next instruction and their channel: a value the host writes to CMD, bytes the line delivers to the operation
in progress (R130), or, when nothing comes from outside, what the block is about to send (R144, R181). -/
def fetch (s : State) : Option (Channel × List Byte) :=
  match s.inbox with
  | .writeReg .cmd v :: _ => some (.cmd, [v.setWidth 8])
  | .receive bytes :: _ => some (.fromDevice s.op, bytes)
  | _ :: _ => none
  | [] =>
      if s.busy && decide (s.phase = .tx) && decide (s.staged.length ≤ maxPayload) then
        some (.toDevice, encodeFrame txCode s.staged)
      else if s.busy && decide (s.phase = .probe) && s.counted then some (.toDevice, [synchByte])
      else none

/-- The pending read is answered: by the oldest byte of RXQ, else by a free value, a byte or the timeout (R45, R91, R255). -/
def answerRead (s : State) : State :=
  match s.rxq with
  | b :: rest => takeByte b { s with rxq := rest }
  | [] =>
      match Config.lineAnswer s.fresh with
      | some b => takeByte b { s with fresh := s.fresh + 1 }
      | none => takeTimeout { s with fresh := s.fresh + 1 }

/-- The sequencer advances by one byte event, or by what stands between two of them (R40); while no operation is in progress it
is silent (R80 O5, R341). -/
def blockStep (s : State) : Host.Outcome State Fault Refusal :=
  if s.busy then
    match s.phase with
    | .idle => .next s
    | .opening => .next (openAnswered (Config.openAnswer s.fresh) { s with fresh := s.fresh + 1 })
    | .probe => if s.counted then execSynch s else .next (nextIteration s)
    | .tx => if s.staged.length ≤ maxPayload then .next (sendByte s) else .fault .payloadTooLong
    | .rx => .next (answerRead s)
    | .finish => finish s
  else .next s

/-- One event of the outside world (R310). An answer to a question the block has not asked changes nothing; a timeout is an
answer only to a read that no byte waits for (R251; DEDUCED, log 13). -/
def handleEvent (e : Event) (s : State) : Host.Outcome State Fault Refusal :=
  match e with
  | .writeReg r v => .next (writeReg r v s)
  | .load i b => loadByte i b s
  | .receive bytes => arrive bytes s
  | .timeout => if reading s && s.rxq.isEmpty then .next (takeTimeout s) else .next s
  | .openAnswer ok => if s.busy && decide (s.phase = .opening) then .next (openAnswered ok s) else .next s
  | .reset => .next (hwReset s)
  | .tick => blockStep s

/-- What a step does when the next thing is no instruction. -/
def otherwise (s : State) : Host.Outcome State Fault Refusal :=
  match s.inbox with
  | [] => blockStep s
  | e :: rest => handleEvent e { s with inbox := rest }

/-! ### Placing an instruction where `fetch` finds it -/

/-- The operation that sends a host frame or awaits a reply. -/
def operationOf : Instr → Op
  | .synch | .rIdent _ => .identify
  | .baudSet _ _ | .rBaudSet _ => .setbaud
  | .baudCheckShort | .baudCheckExt | .rBaudCheck _ => .checkbaud
  | .erase | .rErase _ => .erase
  | .write _ _ | .rWrite _ => .write
  | .xferFrame _ | .rAny _ => .xfer
  | _ => .nothing

/-- The payload of a host frame. -/
def hostPayload : Instr → List Byte
  | .baudSet f c => baudSetPayload f c
  | .baudCheckShort => checkShortPayload
  | .baudCheckExt => checkExtPayload
  | .erase => erasePayload
  | .write a d => writePayload a d
  | .xferFrame p => p
  | _ => []

/-- The block in the middle of the operation that runs instruction `i`. -/
def placeOperation (i : Instr) (s : State) : State :=
  { s with
    busy := true
    opened := true
    session := decide (operationOf i ≠ .identify)
    done := false
    err := false
    op := operationOf i
    expect := expectOf (operationOf i) }

/-- The state in which the very next step runs `i`: a CMD value is the host's next write; for a host frame or probe the sequencer
stands where it sends it; for a reply it stands at the first read and the line delivers the frame. -/
def placeInstr (i : Instr) (s : State) : State :=
  match channelOf i with
  | .cmd => { s with inbox := .writeReg .cmd (((encode i).headD 0).setWidth 32) :: s.inbox }
  | .toDevice =>
      if i = .synch then { placeOperation i s with inbox := [], phase := .probe, counted := true }
      else { placeOperation i s with inbox := [], phase := .tx, txi := 0, txacc := 0, staged := hostPayload i }
  | .fromDevice _ =>
      { startDecode (decide (operationOf i ≠ .identify)) (placeOperation i s) with
        inbox := .receive (encode i) :: s.inbox, rxq := [], out := s.out }

end Sys2Proof.Machine
end

