-- ==== Sys2Proof/Machine/Step.lean ====
section
/-!
DEFINITION. One step of the machine: the next instruction is fetched, decoded and executed; what is no instruction is an event or
a byte-level step of the sequencer. And the placing of an opcode-table word where `step` fetches.
-/

namespace Sys2Proof.Machine

def step (s : State) : Host.Outcome State Fault Refusal :=
  match fetch s with
  | none => otherwise s
  | some (ch, bytes) =>
      match decode ch bytes with
      | .ok (i, []) => exec i { s with inbox := s.inbox.tail }
      | _ => otherwise s

/-- `s` with the instruction of an opcode-table word where `step` fetches its next instruction. Bytes that are no instruction
come from the line. -/
def State.withFetchWord (s : State) (nbits w : Nat) : State :=
  match decodeTableWord nbits w with
  | some i => placeInstr i s
  | none => { s with inbox := .receive (wordBytes nbits w) :: s.inbox }

end Sys2Proof.Machine
end

