-- ==== Sys2Proof/Machine/HostProgram.lean ====
section
/-!
DEFINITION. The statements of host programs (30_encoding.md R126, R128) as events: what a host that runs one of them writes.
Waiting for BUSY = 0 is reading STATUS, which changes nothing.
-/

namespace Sys2Proof.Machine

/-- A CMD write of one value. -/
def writeCmd (v : Byte) : Event := .writeReg .cmd (v.setWidth 32)

/-- The byte writes that put `bytes` into TXBUF from index `i` on. -/
def loadFrom (i : Nat) : List Byte → List Event
  | [] => []
  | b :: bs => .load i b :: loadFrom (i + 1) bs

/-- `LOAD <hex bytes>` (R126): TXBUF from index 0, and TXLEN. -/
def loadStatement (bytes : List Byte) : List Event :=
  loadFrom 0 bytes ++ [.writeReg .txlen (BitVec.ofNat 32 bytes.length)]

/-- The writes of one block of `PROGRAM` (R128): ADDR, the data, WRITE. -/
def writeBlock (addr : Nat) (block : List Byte) : List Event :=
  .writeReg .addr (BitVec.ofNat 32 addr) :: (loadStatement block ++ [writeCmd 0x07])

/-- The blocks of `PROGRAM <image>, <chunk>` from offset `a` on, in increasing address order (R128), at most `n` of them. -/
def programBlocks (chunk : Nat) : Nat → Nat → List Byte → List (List Event)
  | 0, _, _ => []
  | _ + 1, _, [] => []
  | n + 1, a, image => writeBlock a (image.take chunk) :: programBlocks chunk n (a + chunk) (image.drop chunk)

/-- `PROGRAM <image>, <chunk>` (R128): ERASE, then the blocks; one list of writes for each operation the host waits for. -/
def programStatement (image : List Byte) (chunk : Nat) : List (List Event) :=
  [writeCmd 0x06] :: programBlocks chunk image.length 0 image

/-- `CONNECT` (R128): OPEN, IDENTIFY, SETBAUD, CHECKBAUD. -/
def connectStatement : List (List Event) :=
  [[writeCmd 0x01], [writeCmd 0x03], [writeCmd 0x04], [writeCmd 0x05]]

end Sys2Proof.Machine
end

