-- ==== Sys2Proof/Safety.lean ====
section
/-!
DEFINITION. What claims speak of: the fault bit (R330), the life cycle (R270), a conforming reply (R276 to R281), which failures
an operation can end in (R304), and the invariant every step keeps (R23, R24, R40, R42, R43, R47).
-/

namespace Sys2Proof.Machine

/-- Something has gone wrong: STATUS.ERR (R330). -/
def wentWrong (s : State) : Prop := s.err = true

/-- Nothing is in progress and no failure is recorded: a CMD write reaches the operation's own preconditions (R260). -/
def Ready (s : State) : Prop := s.busy = false ∧ s.err = false

/-- The stages of R270. -/
inductive Stage where
  | closed
  | opened
  | session
  deriving DecidableEq, Repr

/-- The stage, read from STATUS (R270). -/
def stage (s : State) : Stage :=
  if s.session then .session else if s.opened then .opened else .closed

/-- Bytes that are one reply a conforming device gives to the operation in progress (R277 to R281): the row that operation
awaits, and an identifier in CATALOG. -/
def Conforming (o : Op) (bytes : List Byte) : Prop :=
  ∃ i, decode (.fromDevice o) bytes = .ok (i, []) ∧ ∀ p, i = .rIdent p → Config.catalog (identId p) ≠ none

/-- The failures an operation in progress can end in: the rows of R304, without what is tested at acceptance. -/
def mayFail (o : Op) (f : Failure) : Bool :=
  match o, f with
  | .openPort, .transportUnavailable => true
  | .identify, .handshakeTimeout | .identify, .framing _ | .identify, .checksum | .identify, .unsupportedDevice => true
  | .setbaud, .framing d | .checkbaud, .framing d | .erase, .framing d | .write, .framing d | .xfer, .framing d =>
      decide (d ≠ .shortReply)
  | .setbaud, .checksum | .checkbaud, .checksum | .erase, .checksum | .write, .checksum | .xfer, .checksum => true
  | .setbaud, .rejected _ | .checkbaud, .rejected _ | .erase, .rejected _ | .write, .rejected _ => true
  | .xfer, .rejected d => decide (d = .noReply)
  | _, _ => false

/-- The failures a CMD write can meet at acceptance: the rest of R304. -/
def mayDecline (i : Instr) (f : Failure) : Bool :=
  match i, f with
  | .openOp, .refused d => decide (d = .alreadyOpen)
  | .identify, .refused d => decide (d = .notOpen ∨ d = .sessionExists)
  | .setbaud, .refused d => decide (d = .notOpen ∨ d = .noSession ∨ d = .divisorRange)
  | .checkbaud, .refused d | .eraseOp, .refused d => decide (d = .notOpen ∨ d = .noSession)
  | .writeOp, .refused d => decide (d = .notOpen ∨ d = .noSession ∨ d = .tooLong)
  | .writeOp, .capacity => true
  | .xfer, .refused d => decide (d = .notOpen ∨ d = .tooLong)
  | .reserved9, .refused d | .reservedA, .refused d | .reservedB, .refused d | .reservedC, .refused d
  | .reservedD, .refused d | .reservedE, .refused d | .reservedHi _, .refused d => decide (d = .badOp)
  | _, _ => false

/-- The failure a rejected frame is, and its ERRINFO (R121, R293, R294). -/
def frameFailure : FrameError → Failure × W16
  | .trunc => (.framing .trunc, 0)
  | .header got => (.framing .header, got)
  | .size got => (.framing .size, got)
  | .checksum got => (.checksum, got)
  | .suffix got => (.framing .suffix, got.setWidth 16)

/-- The block is at the first read of a DECODE, as R157 enters it, on an open link (R120), and no byte waits. -/
structure AtDecodeStart (s : State) : Prop where
  link : s.opened = true
  reading : reading s = true
  field : s.rxs = .sPrefix
  rxcnt : s.rxcnt = 0
  rxacc : s.rxacc = rxCode.setWidth 16
  rxsize : s.rxsize = 0
  rxchk : s.rxchk = 0
  rxlen : s.rxlen = 0
  rxq : s.rxq = []

/-- `s` after DECODE has returned Frame(p), read with the long timeout: RXLEN counts the payload; RXBUF and the hidden codec state
are those of `t`. -/
def decodedTo (p : List Byte) (t s : State) : State :=
  { s with
    tmoLong := true
    out := s.out ++ [.setTimeout true]
    rxlen := BitVec.ofNat 16 p.length
    rxbuf := t.rxbuf
    rxs := t.rxs
    rxcnt := t.rxcnt
    rxacc := t.rxacc
    rxhdr0 := t.rxhdr0
    rxhdr1 := t.rxhdr1
    rxsize := t.rxsize
    rxchk := t.rxchk
    rxsuf := t.rxsuf }

/-- RXBUF of `t` is that of `s` with the payload stored from index 0 on (R43). -/
def PayloadStored (p : List Byte) (s t : State) : Prop :=
  t.rxbuf.readRange 0 p.length = some p ∧ ∀ a, p.length ≤ a → t.rxbuf.read a = s.rxbuf.read a

/-- The state a refusal leaves (R300, R303): ERR, ERRINFO and the flags, nothing else. -/
def refusedWith (code : Byte) (info : W16) (s : State) : State :=
  { s with
    errReg := code
    errInfo := info
    err := true
    done := false
    busy := false
    op := .nothing
    phase := .idle }

/-- The state a fatal failure leaves (R300, R301): as a refusal, and the link closed. -/
def failedWith (code : Byte) (info : W16) (s : State) : State :=
  { refusedWith code info s with
    opened := false
    session := false
    out := if s.opened then s.out ++ [.close] else s.out
    rxq := if s.opened then [] else s.rxq }

/-- Where DECODE stands inside the field it reads (R40, R157). -/
def FieldOk (s : State) : Prop :=
  match s.rxs with
  | .sPrefix => s.rxlen = 0
  | .sHdr => s.rxlen = 0 ∧ s.rxcnt < 2
  | .sSize => s.rxlen = 0 ∧ s.rxcnt < 2
  | .sPayload => s.rxlen.toNat = s.rxcnt ∧ s.rxcnt < s.rxsize.toNat - 6
  | .sChk => s.rxcnt < 2
  | .sSuffix => True

/-- The invariant of the block. -/
structure Inv (s : State) : Prop where
  /-- BUSY = 1 implies ERR = 0 and DONE = 0 (R23). -/
  busy_clear : s.busy = true → s.err = false ∧ s.done = false
  /-- SESSION = 1 implies OPEN = 1 (R23). -/
  session_opened : s.session = true → s.opened = true
  /-- DONE = 1 implies ERR = 0 (R23). -/
  done_clear : s.done = true → s.err = false
  /-- ERR and ERRINFO are 0 while no failure is recorded, and hold a failure code while one is (R24). -/
  no_failure : s.err = false → s.errReg = 0 ∧ s.errInfo = 0
  failure : s.err = true → ∃ f : Failure, s.errReg = f.code
  /-- op is NONE exactly when STATUS.BUSY = 0 (R40). -/
  op_nothing : s.op = .nothing ↔ s.busy = false
  phase_idle : s.phase = .idle ↔ s.busy = false
  phase_opening : s.phase = .opening ↔ s.op = .openPort
  phase_probe : s.phase = .probe → s.op = .identify
  phase_tx : s.phase = .tx → s.op ≠ .identify ∧ s.staged.length ≤ maxPayload ∧ s.txi ≤ s.staged.length + 7
  /-- An operation other than OPEN runs on an open link, and OPEN on a closed one (R120, R262). -/
  link : s.busy = true → (s.opened = true ↔ s.op ≠ .openPort)
  /-- IDENTIFY runs without a session, the commands within one (R120). -/
  no_session : s.op = .identify → s.session = false
  in_session : expectOf s.op ≠ none → s.session = true
  /-- The expected reply is that of the operation in progress (R47 e). -/
  expected : s.busy = true → s.expect = expectOf s.op
  /-- ITER stays within the loop bound (R39). -/
  iter_bound : s.op = .identify → s.iter.toNat ≤ s.wait.toNat * 100
  /-- DECODE stands inside its field (R40). -/
  field : s.phase = .rx → FieldOk s
  /-- Every byte of RXBUF[0 : RXLEN) holds a value (R43). -/
  rx_listed : ∀ k, k < s.rxlen.toNat → s.rxbuf.read k ≠ none
  /-- The buffers are in canonical form and within their size (R42, R43). -/
  txbuf_wf : s.txbuf.wf
  rxbuf_wf : s.rxbuf.wf

end Sys2Proof.Machine
end

