-- ==== Sys2Proof/Certificates/Slice0/Obligations.lean ====
section
/-!
DEFINITION. The statements of the model: one definition for each obligation, with the rule or sentence of spec/ it formalises.
-/

open Sys2Proof Sys2Proof.Machine

/-! ### Encodings and frames -/

/-- R101, R107 to R112, R120: decoding the bytes of a well-formed instruction, with anything after them, gives it back. -/
def Obligations.DecodeOfEncodeIsTheInstruction : Prop :=
  ∀ (i : Instr) (rest : List Byte), i.WellFormed → decode (channelOf i) (encode i ++ rest) = .ok (i, rest)

/-- R121, R125, R141: what a channel's decoder accepts is exactly the encoding of a well-formed instruction of that channel. -/
def Obligations.AcceptedBytesAreTheEncoding : Prop :=
  ∀ (ch : Channel) (bs rest : List Byte) (i : Instr), decode ch bs = .ok (i, rest) →
    channelOf i = ch ∧ i.WellFormed ∧ bs = encode i ++ rest

/-- Words written out in file 95 and in R120 decode to what they stand for. -/
def Obligations.WordsOfTheSpecDecode : Prop :=
  decode .toDevice [0x46, 0xB9, 0x6A, 0x00, 0x0B, 0x03, 0x00, 0x00, 0x5A, 0xA5, 0x01, 0x77, 0x16] = .ok (.erase, [])
    ∧ decode .toDevice [0x46, 0xB9, 0x6A, 0x00, 0x0E, 0x01, 0x1B, 0x40, 0xFF, 0xCC, 0x00, 0x00, 0x97, 0x03, 0x36, 0x16]
        = .ok (.baudSet 0x1B 0xFFCC, [])
    ∧ decode (.fromDevice .write) [0x46, 0xB9, 0x68, 0x00, 0x07, 0x02, 0x00, 0x71, 0x16] = .ok (.rWrite [], [])
    ∧ decode .cmd [0x0F] = .ok (.clrerr, [])

/-- R142. -/
def Obligations.EncodeIsInjective : Prop :=
  ∀ (c c' : Byte) (p p' : List Byte), encodeFrame c p = encodeFrame c' p' → c = c' ∧ p = p'

/-- R92: a frame of L payload bytes occupies L + 8 bytes, and its SIZE field, bytes 3 and 4, counts all but the two markers. -/
def Obligations.FrameOccupiesPayloadPlusEight : Prop :=
  ∀ (c : Byte) (p : List Byte), p.length ≤ 65529 →
    (encodeFrame c p).length = p.length + 8
      ∧ (be16 ((encodeFrame c p).getD 3 0) ((encodeFrame c p).getD 4 0)).toNat = p.length + 6
      ∧ (encodeFrame c p).take 3 = [0x46, 0xB9, c] ∧ (encodeFrame c p).drop 5 = p ++ [hi (chksum c p), lo (chksum c p), 0x16]

/-- R158: the round trip for every direction code, and HEADER from the block's own receiver for every code but 0x68. -/
def Obligations.RoundTripForEveryDirectionCode : Prop :=
  ∀ (d : Byte) (p rest : List Byte), p.length ≤ 65529 →
    parseFrame d (encodeFrame d p ++ rest) = .frame p rest
      ∧ (d ≠ 0x68 → parseFrame rxCode (encodeFrame d p ++ rest)
          = .bad (.header (be16 0xB9 d)) [] ((encodeFrame d p).drop 3 ++ rest))

/-- R159 (a), R155: a frame whose checksum bytes are not the checksum is rejected for it, whatever its last byte. -/
def Obligations.WrongChecksumIsRejected : Prop :=
  ∀ (c c0 c1 e : Byte) (p rest : List Byte), p.length ≤ 65529 → be16 c0 c1 ≠ chksum c p →
    parseFrame c ((encodeFrame c p).take (p.length + 5) ++ [c0, c1, e] ++ rest) = .bad (.checksum (be16 c0 c1)) p rest

/-! ### The byte machines agree with the operation-level procedures -/

/-- R144: byte by byte, the block hands over the bytes of the one write, and stands where the one write leaves it,
with txi at 0, which is the model's choice (log 32). -/
def Obligations.ByteLevelSendEqualsOneWrite : Prop :=
  ∀ (s : State) (p : List Byte) (rest : List Event), p.length ≤ 65529 → sending p s = true → s.txi = 0 → s.txacc = 0 →
    core.run (p.length + 8) { s with inbox := List.replicate (p.length + 8) .tick ++ rest }
      = sendFrame p { s with inbox := rest }

/-- R157: on every stream the byte machine and the procedure of R150 agree: on the result, the bytes left unread, RXLEN and RXBUF. -/
def Obligations.ByteMachineAgreesWithDecode : Prop :=
  ∀ (s : State) (bs : List Byte), AtDecodeStart s →
    let t := drain bs.length { s with rxq := bs }
    match parseFrame rxCode bs with
    | .frame p rest =>
        t = { decodedTo p t s with phase := .finish, rxq := rest } ∧ PayloadStored p s t
    | .noFrame rest =>
        (bs = [] ∧ t = { s with rxq := [] }) ∨ (bs ≠ [] ∧ t = noFrame { s with rxq := rest })
    | .bad .trunc stored _ =>
        t = { decodedTo stored t s with rxq := [] } ∧ PayloadStored stored s t
          ∧ takeTimeout t = failedWith 0x33 0 t
    | .bad e stored rest =>
        t = failedWith (frameFailure e).1.code (frameFailure e).2 { decodedTo stored t s with rxq := rest }
          ∧ PayloadStored stored s t

/-! ### Host operations -/

/-- R260, first arm: while BUSY = 1 every CMD value but CLOSE is dropped. -/
def Obligations.CmdWriteWhileBusyIsDropped : Prop :=
  ∀ (i : Instr) (s : State), channelOf i = .cmd → i.WellFormed → s.busy = true → i ≠ .close → exec i s = .next s

/-- R260, second arm: while ERR = 1 every CMD value but CLRERR is dropped. -/
def Obligations.CmdWriteWhileFailedIsDropped : Prop :=
  ∀ (i : Instr) (s : State), channelOf i = .cmd → i.WellFormed → s.busy = false → s.err = true → i ≠ .clrerr →
    exec i s = .next s

/-- R264: CLOSE while BUSY = 1 stops the operation, closes an open link and sets DONE; every other register keeps its value. While a
TpOpen is pending the port is released if it was obtained. -/
def Obligations.CloseWhileBusyAborts : Prop :=
  ∀ s : State, s.busy = true →
    (s.phase ≠ .opening → exec .close s = .next { s with
        opened := false, session := false, busy := false, op := .nothing, phase := .idle, done := true
        out := if s.opened then s.out ++ [.close] else s.out
        rxq := if s.opened then [] else s.rxq })
    ∧ (s.phase = .opening → ∃ released : Bool, (s.opened = true → released = true) ∧ exec .close s = .next { s with
        opened := false, session := false, busy := false, op := .nothing, phase := .idle, done := true
        out := if released then s.out ++ [.close] else s.out
        rxq := if released then [] else s.rxq
        fresh := s.fresh + 1 })

/-- R261. -/
def Obligations.NopOnlySetsDone : Prop :=
  ∀ s : State, decodeCmd 0x00 = .nop
    ∧ (Ready s → exec .nop s = .next { s with done := true })
    ∧ (s.busy = true ∨ s.err = true → exec .nop s = .next s)

/-- R263: CLOSE closes an open transport, ends the session and sets DONE; it is dropped while ERR = 1. -/
def Obligations.CloseEndsTheSession : Prop :=
  ∀ s : State, decodeCmd 0x02 = .close
    ∧ (Ready s → s.opened = true → exec .close s = .next { s with
        opened := false, session := false, done := true, out := s.out ++ [.close], rxq := [] })
    ∧ (Ready s → s.opened = false → exec .close s = .next { s with session := false, done := true })
    ∧ (s.busy = false → s.err = true → exec .close s = .next s)

/-- R265: while BUSY = 0, CLRERR clears ERR, ERRINFO, STATUS.ERR and DONE, and nothing else. -/
def Obligations.ClrerrClearsTheFailure : Prop :=
  ∀ s : State, s.busy = false →
    exec .clrerr s = .next { s with errReg := 0, errInfo := 0, err := false, done := false }

/-- R262, R260: OPEN on a closed transport calls TpOpen(PORT) and waits for its answer. -/
def Obligations.OpenCallsTheTransport : Prop :=
  ∀ s : State, Ready s → s.opened = false →
    exec .openOp s = .next { s with
      done := false, busy := true, op := .openPort, phase := .opening, expect := none
      out := s.out ++ [.openPort Config.port] }

/-- R262, R291: the transport's answer completes OPEN at BAUD_INIT with the short timeout, or fails it with TransportUnavailable.
That what waits in RXQ stays there on a failed answer is the model's choice (log 33). -/
def Obligations.OpenEndsWithTheAnswer : Prop :=
  ∀ (s : State) (rest : List Event), s.busy = true → s.phase = .opening → s.opened = false →
    step { s with inbox := .openAnswer true :: rest } = .next { s with
        inbox := rest, opened := true, done := true, busy := false, op := .nothing, phase := .idle
        baudCur := s.baudInit, tmoLong := false
        out := s.out ++ [.setBaud s.baudInit] ++ [.setTimeout false] }
    ∧ step { s with inbox := .openAnswer false :: rest } = .next { s with
        inbox := rest, errReg := 0x01, errInfo := 0, err := true, done := false, busy := false
        op := .nothing, phase := .idle, session := false }

/-- R183: IDENTIFY on an open transport without a session clears ITER, flushes the input and enters its loop. -/
def Obligations.IdentifyStartsThePolling : Prop :=
  ∀ s : State, Ready s → s.opened = true → s.session = false →
    exec .identify s = .next { s with
      done := false, busy := true, op := .identify, phase := .probe, counted := false, iter := 0, expect := none
      rxq := [], out := s.out ++ [.flush] }

/-- R211 to R214, for every value of the parameter OSC_BASE: a divider in range is recorded in COUNT exactly, without wrap or clamp, and
the eight bytes of BAUD_SET are staged; one out of range, or BAUD_TGT = 0, is refused with COUNT unchanged. -/
def Obligations.DividerIsExactOrRefused : Prop :=
  ∀ (base : Nat) (s : State), Ready s → s.opened = true → s.session = true →
    (s.baudTgt.toNat ≠ 0 → 1 ≤ base / (4 * s.baudTgt.toNat) → base / (4 * s.baudTgt.toNat) ≤ 65536 →
      ∃ c : W16, (c.toNat : Int) = 65536 - (base / (4 * s.baudTgt.toNat) : Nat)
        ∧ setbaudWith base s = .next { s with
            done := false, busy := true, op := .setbaud, phase := .tx, txi := 0, txacc := 0, expect := some 0x01, count := c
            staged := [0x01, s.fosc.extractLsb' 0 8, 0x40, hi c, lo c, 0x00, 0x00, 0x97] })
    ∧ (s.baudTgt.toNat = 0 ∨ base / (4 * s.baudTgt.toNat) = 0 ∨ 65536 < base / (4 * s.baudTgt.toNat) →
      setbaudWith base s = .next (refusedWith 0x78 0 s))

/-- R214: SETBAUD answers a next state for every BAUD_TGT: BAUD_SET staged with the divider of OSC_BASE, not of FOSC (R215), or, out of
range, the refusal. -/
def Obligations.SetbaudStagesTheDivider : Prop :=
  ∀ s : State, Ready s → s.opened = true → s.session = true →
    let q := Config.oscBase / (4 * s.baudTgt.toNat)
    let c := BitVec.ofInt 16 (65536 - (q : Int))
    exec .setbaud s = .next
      (if s.baudTgt.toNat ≠ 0 ∧ 1 ≤ q ∧ q ≤ 65536 then
        { s with
          done := false, busy := true, op := .setbaud, phase := .tx, txi := 0, txacc := 0, expect := some 0x01, count := c
          staged := [0x01, s.fosc.extractLsb' 0 8, 0x40, hi c, lo c, 0x00, 0x00, 0x97] }
      else refusedWith 0x78 0 s)

/-- R216, R217, R218: CHECKBAUD switches the transport to BAUD_TGT and stages BAUD_CHECK in the form CHIPVER.VER asks for. -/
def Obligations.CheckbaudSwitchesThenChecks : Prop :=
  ∀ s : State, Ready s → s.opened = true → s.session = true →
    exec .checkbaud s = .next { s with
      done := false, busy := true, op := .checkbaud, phase := .tx, txi := 0, txacc := 0, expect := some 0x05
      baudCur := s.baudTgt, out := s.out ++ [.setBaud s.baudTgt]
      staged := if 0x72 ≤ (s.chipVer.extractLsb' 0 8).toNat then [0x05, 0x00, 0x00, 0x5A, 0xA5] else [0x05] }

/-- R231: ERASE.op stages the constant ERASE payload. -/
def Obligations.EraseOpStagesErase : Prop :=
  ∀ s : State, Ready s → s.opened = true → s.session = true →
    exec .eraseOp s = .next { s with
      done := false, busy := true, op := .erase, phase := .tx, txi := 0, txacc := 0, expect := some 0x03
      staged := [0x03, 0x00, 0x00, 0x5A, 0xA5] }

/-- R232, R233, R234: a block that fits the flash and the frame, all of it written by the host, is staged behind the five WRITE bytes. -/
def Obligations.WriteOpStagesTheBlock : Prop :=
  ∀ (s : State) (d : List Byte), Ready s → s.opened = true → s.session = true →
    s.addr.toNat + s.txlen.toNat ≤ s.flashSz.toNat → s.txlen.toNat ≤ 65524 →
    s.txbuf.readRange 0 s.txlen.toNat = some d →
    exec .writeOp s = .next { s with
      done := false, busy := true, op := .write, phase := .tx, txi := 0, txacc := 0, expect := some 0x02
      staged := [0x22, hi s.addr, lo s.addr, 0x5A, 0xA5] ++ d }

/-- R266: XFER stages TXBUF[0 : TXLEN) as the whole payload; no session is needed. -/
def Obligations.XferStagesTheBuffer : Prop :=
  ∀ (s : State) (d : List Byte), Ready s → s.opened = true → s.txlen.toNat ≤ 65529 →
    s.txbuf.readRange 0 s.txlen.toNat = some d →
    exec .xfer s = .next { s with
      done := false, busy := true, op := .xfer, phase := .tx, txi := 0, txacc := 0, expect := none, staged := d }

/-- R42, R54: WRITE.op and XFER do not send a byte the host never wrote; the model stops by name. -/
def Obligations.UnwrittenDataIsNotSent : Prop :=
  ∀ s : State, Ready s → s.opened = true → (∃ k, k < s.txlen.toNat ∧ s.txbuf.read k = none) →
    (s.session = true → s.addr.toNat + s.txlen.toNat ≤ s.flashSz.toNat → s.txlen.toNat ≤ 65524 →
      exec .writeOp s = .fault .txUnwritten)
    ∧ (s.txlen.toNat ≤ 65529 → exec .xfer s = .fault .txUnwritten)

/-- R260, R299: every reserved CMD value is refused as BAD_OP, with ERRINFO the value written. -/
def Obligations.ReservedValuesAreRefused : Prop :=
  ∀ s : State, Ready s →
    exec .reserved9 s = .next (refusedWith 0x18 0x0009 s)
      ∧ exec .reservedA s = .next (refusedWith 0x18 0x000A s)
      ∧ exec .reservedB s = .next (refusedWith 0x18 0x000B s)
      ∧ exec .reservedC s = .next (refusedWith 0x18 0x000C s)
      ∧ exec .reservedD s = .next (refusedWith 0x18 0x000D s)
      ∧ exec .reservedE s = .next (refusedWith 0x18 0x000E s)
      ∧ ∀ v : Byte, exec (.reservedHi v) s = .next (refusedWith 0x18 (v.setWidth 16) s)

/-- R299, R303, R312 (1): NOT_OPEN, ALREADY_OPEN, NO_SESSION and SESSION_EXISTS, in the order of the operations' rules. -/
def Obligations.PreconditionsAreTestedInOrder : Prop :=
  ∀ s : State, Ready s →
    (s.opened = false →
      ∀ i ∈ [Instr.identify, .setbaud, .checkbaud, .eraseOp, .writeOp, .xfer], exec i s = .next (refusedWith 0x28 0 s))
    ∧ (s.opened = true → exec .openOp s = .next (refusedWith 0x38 0 s))
    ∧ (s.opened = true → s.session = false →
        ∀ i ∈ [Instr.setbaud, .checkbaud, .eraseOp, .writeOp], exec i s = .next (refusedWith 0x48 0 s))
    ∧ (s.opened = true → s.session = true → exec .identify s = .next (refusedWith 0x58 0 s))

/-- R232, R235, R240, R143: a WRITE past the end of flash is CapacityExceeded, fatal, and sends nothing; else data that no frame holds
is refused, as XFER's is. -/
def Obligations.OversizeWritesFailBeforeSending : Prop :=
  ∀ s : State, Ready s → s.opened = true →
    (s.session = true → s.flashSz.toNat < s.addr.toNat + s.txlen.toNat →
      exec .writeOp s = .next (failedWith 0x07 0 s))
    ∧ (s.session = true → s.addr.toNat + s.txlen.toNat ≤ s.flashSz.toNat → 65524 < s.txlen.toNat →
      exec .writeOp s = .next (refusedWith 0x68 0 s))
    ∧ (65529 < s.txlen.toNat → exec .xfer s = .next (refusedWith 0x68 0 s))

/-! ### Failure entry -/

/-- R290, R293, R297, R299, R300 to R303: what raising a failure writes, with the value of ERR for every kind and detail; a fatal one
closes the link, HandshakeTimeout and Refused leave it. -/
def Obligations.RaiseWritesTheFailureRegisters : Prop :=
  (∀ (f : Failure) (info : W16) (s : State),
    raise f info s =
      match f with
      | .handshakeTimeout => refusedWith 0x02 info s
      | .refused _ => refusedWith f.code info s
      | _ => failedWith f.code info s)
  ∧ [Failure.transportUnavailable, .handshakeTimeout, .checksum, .unsupportedDevice, .capacity].map Failure.code
      = [0x01, 0x02, 0x04, 0x05, 0x07]
  ∧ [FramingDetail.header, .suffix, .trunc, .size, .shortReply].map (fun d => (Failure.framing d).code)
      = [0x13, 0x23, 0x33, 0x43, 0x53]
  ∧ [RejectedDetail.mismatch, .noReply, .empty].map (fun d => (Failure.rejected d).code) = [0x16, 0x26, 0x36]
  ∧ [RefusedDetail.badOp, .notOpen, .alreadyOpen, .noSession, .sessionExists, .tooLong, .divisorRange].map
        (fun d => (Failure.refused d).code)
      = [0x18, 0x28, 0x38, 0x48, 0x58, 0x68, 0x78]

/-! ### The handshake -/

/-- R181, R192: in a counted iteration SYNCH hands over one byte 7F, and DECODE(SHORT) begins. -/
def Obligations.SynchSendsOneProbe : Prop :=
  ∀ s : State, s.busy = true → s.phase = .probe → s.counted = true →
    exec .synch s = .next { s with
      counted := false, out := s.out ++ [.write 0x7F] ++ [.setTimeout false], tmoLong := false
      phase := .rx, rxs := .sPrefix, rxcnt := 0, rxacc := 0x0068, rxsize := 0, rxchk := 0, rxlen := 0 }

/-- R182, R183, R189, R190: at the head of the loop an iteration below WAIT × 100 is counted; at the bound HandshakeTimeout is raised and
the link stays as it is. -/
def Obligations.LoopHeadCountsOrTimesOut : Prop :=
  ∀ s : State, s.inbox = [] → s.busy = true → s.phase = .probe → s.counted = false →
    (s.iter.toNat < s.wait.toNat * 100 → step s = .next { s with iter := s.iter + 1, counted := true })
    ∧ (s.wait.toNat * 100 ≤ s.iter.toNat → step s = .next (refusedWith 0x02 0 s))

/-- R189: a target that never answers: after WAIT × 100 probes, each answered by a timeout, IDENTIFY ends in HandshakeTimeout with
ITER = WAIT × 100, exactly that many bytes 7F have been sent, and the transport is open as before. -/
def Obligations.SilentTargetEndsInHandshakeTimeout : Prop :=
  ∀ s : State, s.busy = true → s.op = .identify → s.phase = .probe → s.counted = false → s.iter = 0 → s.rxq = [] →
    ∃ t, core.run (3 * (s.wait.toNat * 100) + 1)
          { s with inbox := (List.replicate (s.wait.toNat * 100) [Event.tick, .tick, .timeout]).flatten ++ [.tick] } = .next t
      ∧ t.errReg = 0x02 ∧ t.err = true ∧ t.busy = false ∧ t.op = .nothing
      ∧ t.iter.toNat = s.wait.toNat * 100 ∧ t.opened = s.opened ∧ t.session = s.session
      ∧ lineBytes t.out = lineBytes s.out ++ List.replicate (s.wait.toNat * 100) 0x7F

/-- R183, R186, R187: an identification frame whose identifier is in CATALOG ends IDENTIFY with the session and its five registers
written together; the payload is in RXBUF. -/
def Obligations.IdentificationCreatesTheSession : Prop :=
  ∀ (s : State) (p : List Byte) (name : String) (size : W32), AtDecodeStart s → s.op = .identify → (Instr.rIdent p).WellFormed →
    Config.catalog (identId p) = some (name, size) →
    ∃ t, exec (.rIdent p) s = .next t ∧ PayloadStored p s t
      ∧ t = { decodedTo p t s with
          fosc := be32 (p.getD 1 0) (p.getD 2 0) (p.getD 3 0) (p.getD 4 0)
          chipId := be16 (p.getD 20 0) (p.getD 21 0)
          chipVer := ((p.getD 22 0).setWidth 24 <<< 16) ||| ((p.getD 18 0).setWidth 24 <<< 8) ||| (p.getD 17 0).setWidth 24
          flashSz := size, chipName := name, session := true
          done := true, busy := false, op := .nothing, phase := .idle }

/-- R183, R186, R295, for every value of the parameter CATALOG: an identifier it holds creates the session; one it does not hold is
UnsupportedDevice with ERRINFO the identifier, and no session register is written. -/
def Obligations.CatalogDecidesTheSession : Prop :=
  ∀ (catalog : W16 → Option (String × W32)) (s : State) (p : List Byte), 23 ≤ p.length →
    (∀ name size, catalog (be16 (p.getD 20 0) (p.getD 21 0)) = some (name, size) →
      identifiedWith catalog p s = { s with
        fosc := be32 (p.getD 1 0) (p.getD 2 0) (p.getD 3 0) (p.getD 4 0)
        chipId := be16 (p.getD 20 0) (p.getD 21 0)
        chipVer := ((p.getD 22 0).setWidth 24 <<< 16) ||| ((p.getD 18 0).setWidth 24 <<< 8) ||| (p.getD 17 0).setWidth 24
        flashSz := size, chipName := name, session := true
        done := true, busy := false, op := .nothing, phase := .idle })
    ∧ (catalog (be16 (p.getD 20 0) (p.getD 21 0)) = none →
      identifiedWith catalog p s = failedWith 0x05 (be16 (p.getD 20 0) (p.getD 21 0)) s)

/-- R183, R130: the identification frame, awaited at the first read of a DECODE, is stored in RXBUF and resolved in the block's CATALOG. -/
def Obligations.IdentificationIsResolvedInTheCatalog : Prop :=
  ∀ (s : State) (p : List Byte), AtDecodeStart s → s.op = .identify → (Instr.rIdent p).WellFormed →
    ∃ t, exec (.rIdent p) s = .next t ∧ PayloadStored p s t
      ∧ t = identifiedWith Config.catalog p (decodedTo p t s)

/-- R184, R293: a well-formed frame of fewer than 23 payload bytes ends IDENTIFY with SHORT_REPLY, ERRINFO its length. -/
def Obligations.ShortIdentificationFails : Prop :=
  ∀ (s : State) (p : List Byte) (rest : List Event), AtDecodeStart s → s.op = .identify → p.length < 23 →
    ∃ t, step { s with inbox := .receive (encodeFrame rxCode p) :: rest } = .next t ∧ PayloadStored p s t
      ∧ t = { failedWith 0x53 (BitVec.ofNat 16 p.length) (decodedTo p t s) with inbox := rest }

/-! ### Frames out and replies in -/

/-- R144, R76 (a): while its payload is staged, a host frame goes out as one write from the byte the block stands at, and DECODE(LONG)
begins. One statement for BAUD_SET, both BAUD_CHECK forms, ERASE, WRITE and XFER.frame. That txi is 0 afterwards is the model's choice
(log 32). -/
def Obligations.HostFramesGoOutWhole : Prop :=
  ∀ (i : Instr) (s : State), channelOf i = .toDevice → i ≠ .synch → i.WellFormed → sending (hostPayload i) s = true →
    exec i s = .next { s with
      out := s.out ++ ((encode i).drop s.txi).map TpCall.write ++ [.setTimeout true], tmoLong := true
      txacc := chksum 0x6A (hostPayload i), txi := 0
      phase := .rx, rxs := .sPrefix, rxcnt := 0, rxacc := 0x0068, rxsize := 0, rxchk := 0, rxlen := 0 }

/-- R161, R214, R218, R231, R234: the reply whose first byte is the expected one completes the command, whatever follows it; RXBUF
holds the payload. One statement for R.BAUD_SET, R.BAUD_CHECK, R.ERASE and R.WRITE. -/
def Obligations.ExpectedReplyCompletesTheCommand : Prop :=
  ∀ (i : Instr) (s : State) (c : Byte) (q : List Byte), AtDecodeStart s → s.op ≠ .identify → i.WellFormed →
    (i = .rBaudSet q ∧ c = 0x01 ∨ i = .rBaudCheck q ∧ c = 0x05 ∨ i = .rErase q ∧ c = 0x03 ∨ i = .rWrite q ∧ c = 0x02) →
    s.expect = some c →
    ∃ t, exec i s = .next t ∧ PayloadStored (c :: q) s t
      ∧ t = { decodedTo (c :: q) t s with done := true, busy := false, op := .nothing, phase := .idle }

/-- R266: any well-formed reply, an empty one too, completes XFER. -/
def Obligations.AnyReplyCompletesXfer : Prop :=
  ∀ (s : State) (p : List Byte), AtDecodeStart s → s.op ≠ .identify → s.expect = none → (Instr.rAny p).WellFormed →
    ∃ t, exec (.rAny p) s = .next t ∧ PayloadStored p s t
      ∧ t = { decodedTo p t s with done := true, busy := false, op := .nothing, phase := .idle }

/-- R276 to R281: bytes that are one conforming reply complete the operation in progress, whichever it is, and record no
failure. -/
def Obligations.ConformingReplyCompletes : Prop :=
  ∀ (s : State) (bytes : List Byte) (rest : List Event), Inv s → AtDecodeStart s → Conforming s.op bytes →
    ∃ t, step { s with inbox := .receive bytes :: rest } = .next t
      ∧ t.done = true ∧ t.busy = false ∧ t.err = false ∧ t.opened = true
      ∧ (s.op = .identify → t.session = true) ∧ (s.op ≠ .identify → t.session = s.session)

/-- R161, R297, R237: a well-formed reply that is empty, or whose first byte is another, is CommandRejected. -/
def Obligations.UnexpectedReplyIsRejected : Prop :=
  ∀ (s : State) (e : Byte) (p : List Byte) (rest : List Event), AtDecodeStart s → s.op ≠ .identify → s.expect = some e →
    p.length ≤ 65529 → (∀ q, p ≠ e :: q) →
    ∃ t, step { s with inbox := .receive (encodeFrame rxCode p) :: rest } = .next t ∧ PayloadStored p s t
      ∧ t = { (match p with
                | [] => failedWith 0x36 0 (decodedTo p t s)
                | b :: _ => failedWith 0x16 (b.setWidth 16) (decodedTo p t s)) with inbox := rest }

/-- R161, R83, R154, R157, R297: a command that waits for its reply fails with NO_REPLY on a timeout of the first read or on a first byte
other than PREFIX, and with TRUNC on a timeout later; IDENTIFY goes on with its next iteration on the first two. -/
def Obligations.MissingReplyFailsOrPollsOn : Prop :=
  ∀ (s : State) (rest : List Event), reading s = true → s.rxq = [] →
    (s.rxs = .sPrefix → s.op ≠ .identify →
      step { s with inbox := .timeout :: rest } = .next { failedWith 0x26 0 s with inbox := rest }
      ∧ ∀ b : Byte, b ≠ 0x46 → step { s with inbox := [], rxq := [b] } = .next { failedWith 0x26 0 s with inbox := [] })
    ∧ (s.rxs = .sPrefix → s.op = .identify →
      step { s with inbox := .timeout :: rest } = .next { s with inbox := rest, phase := .probe }
      ∧ ∀ b : Byte, b ≠ 0x46 → step { s with inbox := [], rxq := [b] } = .next { s with inbox := [], phase := .probe })
    ∧ (s.rxs ≠ .sPrefix → step { s with inbox := .timeout :: rest } = .next { failedWith 0x33 0 s with inbox := rest })

/-- R310, R81, R45, R313: bytes that arrive on an open link while no read is pending wait in RXQ, in order, whether or not they are a
frame; where no port is held they are lost; while TpOpen is pending either can be. Nothing else changes. A read result that comes
after the CLOSE that aborts its operation is lost with the closed transport. -/
def Obligations.UnreadBytesWaitInOrder : Prop :=
  ∀ (s : State) (bytes : List Byte) (rest : List Event),
    (s.opened = true → s.phase ≠ .rx → s.phase ≠ .finish →
      step { s with inbox := .receive bytes :: rest } = .next { s with inbox := rest, rxq := s.rxq ++ bytes })
    ∧ (s.opened = false → s.phase ≠ .opening → step { s with inbox := .receive bytes :: rest } = .next { s with inbox := rest })
    ∧ (s.opened = false → s.phase = .opening → ∃ q, (q = s.rxq ∨ q = s.rxq ++ bytes)
      ∧ step { s with inbox := .receive bytes :: rest } = .next { s with inbox := rest, rxq := q })
    ∧ (s.opened = true → reading s = true →
      ∃ t, core.run 2 { s with inbox := .writeReg .cmd 0x02 :: .receive bytes :: rest } = .next t
        ∧ t.rxq = [] ∧ t.rxlen = s.rxlen ∧ t.rxbuf = s.rxbuf ∧ t.opened = false ∧ t.err = s.err ∧ t.inbox = rest)

/-! ### The whole machine -/

/-- When the bytes at the fetch decode to exactly one instruction, a step is exec of it, with the event it came in taken off. -/
def Obligations.StepRunsTheDecodedInstruction : Prop :=
  ∀ (s : State) (ch : Channel) (bytes : List Byte) (i : Instr), fetch s = some (ch, bytes) → decode ch bytes = .ok (i, []) →
    step s = exec i { s with inbox := s.inbox.tail }

/-- Where the next instruction is: a CMD write, the bytes of a delivery, the frame being sent, the probe that is due. -/
def Obligations.FetchFindsTheNextInstruction : Prop :=
  ∀ (s : State) (rest : List Event),
    (∀ v : W32, fetch { s with inbox := .writeReg .cmd v :: rest } = some (.cmd, [v.setWidth 8]))
    ∧ (∀ bytes, fetch { s with inbox := .receive bytes :: rest } = some (.fromDevice s.op, bytes))
    ∧ (∀ p, sending p s = true → p.length ≤ 65529 → fetch { s with inbox := [] } = some (.toDevice, encodeFrame txCode p))
    ∧ (s.busy = true → s.phase = .probe → s.counted = true → fetch { s with inbox := [] } = some (.toDevice, [0x7F]))

/-- R23, R24, R31, R39, R40, R42, R43, R47: every step keeps the invariant. -/
def Obligations.EveryStepKeepsTheInvariant : Prop :=
  ∀ s t : State, Inv s → step s = .next t → Inv t

/-- R52: the invariant holds after reset. -/
def Obligations.ResetMeetsTheInvariant : Prop := Inv State.reset

/-- R52: the values the spec gives for reset. -/
def Obligations.ResetValues : Prop :=
  statusByte State.reset = 0x00 ∧ State.reset.errReg = 0 ∧ State.reset.errInfo = 0
    ∧ State.reset.baudInit = Config.baudInitReset ∧ State.reset.baudTgt = Config.baudTgtReset
    ∧ State.reset.wait = 10 ∧ State.reset.addr = 0 ∧ State.reset.txlen = 0 ∧ State.reset.rxlen = 0
    ∧ State.reset.baudCur = 0 ∧ State.reset.fosc = 0 ∧ State.reset.chipId = 0 ∧ State.reset.chipVer = 0
    ∧ State.reset.flashSz = 0 ∧ State.reset.chipName = "" ∧ State.reset.count = 0 ∧ State.reset.iter = 0
    ∧ State.reset.op = .nothing ∧ State.reset.phase = .idle ∧ State.reset.txi = 0 ∧ State.reset.rxs = .sPrefix
    ∧ State.reset.rxcnt = 0

/-- R52, R53, R341: hardware reset at any moment, also while BUSY, gives the reset values, releases an open port and sends nothing;
outside a pending TpOpen no other port is released. -/
def Obligations.ResetWinsAtAnyMoment : Prop :=
  ∀ (s : State) (rest : List Event),
    ∃ (q : List Byte) (n : Nat) (released : Bool),
      (s.opened = true → released = true) ∧ (s.phase ≠ .opening → released = s.opened)
      ∧ step { s with inbox := .reset :: rest } = .next { State.reset with
          inbox := rest, rxq := q, fresh := n, out := if released then s.out ++ [.close] else s.out }

/-- No step of any state is refused: every row of the opcode table and every event has a meaning. -/
def Obligations.NoStepIsRefused : Prop :=
  ∀ (s : State) (r : Refusal), step s ≠ .refused r

/-- R42: from a state that meets the invariant a step stops only on unwritten data and on a TXBUF index that does not exist. -/
def Obligations.OnlyHostErrorsStopTheBlock : Prop :=
  ∀ (s : State) (r : Fault), Inv s → step s = .fault r → r = .txUnwritten ∨ r = .noSuchByte

/-- R25, R26, R27, R28, R29, R31: the session registers change only by a successful IDENTIFY, and by reset. -/
def Obligations.OnlyIdentifyWritesTheSession : Prop :=
  ∀ s t : State, step s = .next t →
    (t.fosc = s.fosc ∧ t.chipId = s.chipId ∧ t.chipVer = s.chipVer ∧ t.flashSz = s.flashSz ∧ t.chipName = s.chipName)
    ∨ (s.op = .identify ∧ t.session = true ∧ t.done = true ∧ t.busy = false)
    ∨ s.inbox.head? = some .reset

/-- R30, R222: BAUD_CUR changes only when OPEN ends and when CHECKBAUD is accepted, and by reset. -/
def Obligations.OnlyOpenAndCheckbaudSwitchTheRate : Prop :=
  ∀ s t : State, step s = .next t →
    t.baudCur = s.baudCur
    ∨ (s.phase = .opening ∧ t.opened = true ∧ t.baudCur = s.baudInit)
    ∨ (t.op = .checkbaud ∧ s.busy = false ∧ t.baudCur = s.baudTgt)
    ∨ s.inbox.head? = some .reset

/-- R42, R70, R50, R86, R234: the operand registers and TXBUF are written by the host alone, and not while BUSY = 1; a CMD write leaves
them as they are; reset apart. -/
def Obligations.OperandsBelongToTheHost : Prop :=
  ∀ s t : State, step s = .next t →
    (t.baudInit = s.baudInit ∧ t.baudTgt = s.baudTgt ∧ t.wait = s.wait ∧ t.addr = s.addr ∧ t.txlen = s.txlen ∧ t.txbuf = s.txbuf)
    ∨ (s.busy = false ∧ ∃ e rest, s.inbox = e :: rest ∧ ((∃ r v, r ≠ .cmd ∧ e = .writeReg r v) ∨ ∃ k b, e = .load k b))
    ∨ s.inbox.head? = some .reset

/-- R315, R330, R24: while ERR = 1 the failure stays recorded as it is and no byte is sent, until CLRERR or reset. -/
def Obligations.FailureIsAbsorbing : Prop :=
  ∀ s t : State, Inv s → wentWrong s → step s = .next t →
    (wentWrong t ∧ t.errReg = s.errReg ∧ t.errInfo = s.errInfo ∧ t.busy = false ∧ lineBytes t.out = lineBytes s.out)
    ∨ (∃ v rest, s.inbox = .writeReg .cmd v :: rest ∧ v.setWidth 8 = (0x0F : Byte))
    ∨ s.inbox.head? = some .reset

/-- R304: a failure arises only as its operation's row says: from the operation in progress, or from a CMD write at acceptance. -/
def Obligations.FailuresAreThoseOfTheirOperation : Prop :=
  ∀ s t : State, Inv s → ¬ wentWrong s → step s = .next t → wentWrong t →
    ∃ f : Failure, t.errReg = f.code
      ∧ ((s.busy = true ∧ mayFail s.op f = true)
        ∨ (s.busy = false ∧ ∃ v rest, s.inbox = .writeReg .cmd v :: rest ∧ mayDecline (decodeCmd (v.setWidth 8)) f = true))

/-- R80 (O5), R341: between operations the block is silent: a step that starts with BUSY = 0 hands no byte to the transport. -/
def Obligations.IdleBlockIsSilent : Prop :=
  ∀ s t : State, s.busy = false → step s = .next t → lineBytes t.out = lineBytes s.out

/-- R270, R31, R301 to R303: how the stages follow each other. A session is reached only from the opened stage, by IDENTIFY; the opened
stage only from the closed one, by OPEN; and the closed stage only by a CMD write of CLOSE, by a fatal failure or by reset. A failure
that arises leads to the closed stage, but HandshakeTimeout (KIND 2) and Refused (KIND 8) leave the stage as it was. -/
def Obligations.StagesFollowTheLifeCycle : Prop :=
  ∀ s t : State, Inv s → step s = .next t →
    (stage t = .session → stage s = .session ∨ (stage s = .opened ∧ s.op = .identify ∧ t.done = true))
    ∧ (stage t = .opened → stage s = .opened ∨ (stage s = .closed ∧ s.op = .openPort ∧ t.done = true))
    ∧ (stage t = .closed → stage s = .closed
        ∨ (∃ v rest, s.inbox = .writeReg .cmd v :: rest ∧ v.setWidth 8 = (0x02 : Byte) ∧ t.done = true ∧ t.busy = false)
        ∨ (s.err = false ∧ t.err = true ∧ t.errReg &&& 0x0F ≠ 2 ∧ t.errReg &&& 0x0F ≠ 8)
        ∨ s.inbox.head? = some .reset)
    ∧ (s.err = false → t.err = true →
        stage t = if t.errReg &&& 0x0F = 2 ∨ t.errReg &&& 0x0F = 8 then stage s else .closed)

/-- R21, R50, R51: a step on a host write to a register other than CMD: an RW register reads back what was written, truncated to its
width, and no other register changes; a read-only register ignores the write, as every register does while BUSY = 1. R21 to R39, R23,
R43, R54: what the host reads, STATUS with its flags in bits 0 to 5 and bits 7:6 zero; a session register has a value only within a
session, a byte of RXBUF only below RXLEN. -/
def Obligations.HostReadsAndWrites : Prop :=
  (∀ (s : State) (r : HReg) (v : W32) (rest : List Event), r ≠ .cmd →
    ∃ t, step { s with inbox := .writeReg r v :: rest } = .next t
      ∧ t = { s with
          inbox := rest, baudInit := t.baudInit, baudTgt := t.baudTgt, wait := t.wait, addr := t.addr, txlen := t.txlen }
      ∧ (∀ r', r' ≠ r → readReg r' t = readReg r' s)
      ∧ (s.busy = false → r ∈ [HReg.baudInit, .baudTgt] → readReg r t = some v)
      ∧ (s.busy = false → r ∈ [HReg.wait, .addr, .txlen] → readReg r t = some (v &&& 0xFFFF))
      ∧ (s.busy = true ∨ r ∉ [HReg.baudInit, .baudTgt, .wait, .addr, .txlen] → t = { s with inbox := rest }))
  ∧ ∀ s : State,
    readReg .status s = some (BitVec.ofNat 32
      (s.busy.toNat + 2 * s.opened.toNat + 4 * s.session.toNat + 8 * s.done.toNat + 16 * s.err.toNat + 32 * s.tmoLong.toNat))
    ∧ readReg .cmd s = some 0 ∧ readReg .err s = some (s.errReg.setWidth 32)
    ∧ readReg .errInfo s = some (s.errInfo.setWidth 32) ∧ readReg .baudInit s = some s.baudInit
    ∧ readReg .baudTgt s = some s.baudTgt ∧ readReg .wait s = some (s.wait.setWidth 32)
    ∧ readReg .addr s = some (s.addr.setWidth 32) ∧ readReg .txlen s = some (s.txlen.setWidth 32)
    ∧ readReg .rxlen s = some (s.rxlen.setWidth 32) ∧ readReg .baudCur s = some s.baudCur
    ∧ readReg .count s = some (s.count.setWidth 32) ∧ readReg .iter s = some (s.iter.setWidth 32)
    ∧ (s.session = true → readReg .fosc s = some s.fosc ∧ readReg .chipId s = some (s.chipId.setWidth 32)
        ∧ readReg .chipVer s = some (s.chipVer.setWidth 32) ∧ readReg .flashSz s = some s.flashSz)
    ∧ (s.session = false → ∀ r ∈ [HReg.fosc, .chipId, .chipVer, .flashSz], readReg r s = none)
    ∧ ∀ k, readRxbuf k s = if k < s.rxlen.toNat then s.rxbuf.read k else none

/-- R42, R50: a host write to TXBUF is read back and leaves every other byte alone; it is ignored while BUSY = 1, and at an index that does
not exist the model stops. -/
def Obligations.LoadedByteReadsBack : Prop :=
  ∀ (s : State) (k : Nat) (b : Byte) (rest : List Event),
    (s.busy = false → k < 65529 →
      ∃ t, step { s with inbox := .load k b :: rest } = .next t ∧ t = { s with inbox := rest, txbuf := t.txbuf }
        ∧ readTxbuf k t = some b ∧ ∀ a, a ≠ k → readTxbuf a t = readTxbuf a s)
    ∧ (s.busy = true → step { s with inbox := .load k b :: rest } = .next { s with inbox := rest })
    ∧ (s.busy = false → 65529 ≤ k → step { s with inbox := .load k b :: rest } = .fault .noSuchByte)
end

