-- ==== Sys2Proof/Laws/Codec.lean ====
section
/-!
SUPPORT. Laws of the byte order, of frames and of their parsing, and what executing a decoded reply is.
-/

namespace Sys2Proof

theorem maxPayload_eq : maxPayload = 65529 := rfl

theorem be16_toNat (a b : Byte) : (be16 a b).toNat = a.toNat * 256 + b.toNat := by
  have ha := a.isLt
  have hb := b.isLt
  simp only [be16, BitVec.toNat_ofNat]
  omega

theorem hi_toNat (v : W16) : (hi v).toNat = v.toNat / 256 := by
  have := v.isLt
  simp [hi, BitVec.extractLsb'_toNat, Nat.shiftRight_eq_div_pow]
  omega

theorem lo_toNat (v : W16) : (lo v).toNat = v.toNat % 256 := by simp [lo, BitVec.extractLsb'_toNat]

theorem hi_be16 (a b : Byte) : hi (be16 a b) = a := by
  apply BitVec.eq_of_toNat_eq
  have := b.isLt
  rw [hi_toNat, be16_toNat]
  omega

theorem lo_be16 (a b : Byte) : lo (be16 a b) = b := by
  apply BitVec.eq_of_toNat_eq
  have := b.isLt
  rw [lo_toNat, be16_toNat]
  omega

theorem be16_hi_lo (v : W16) : be16 (hi v) (lo v) = v := by
  apply BitVec.eq_of_toNat_eq
  rw [be16_toNat, hi_toNat, lo_toNat]
  omega

theorem sizeField_toNat (p : List Byte) (h : p.length ≤ 65529) : (sizeField p).toNat = p.length + 6 := by
  simp only [sizeField, BitVec.toNat_ofNat]
  omega

/-- A frame, field by field, with the bytes after it. -/
theorem encodeFrame_append (c : Byte) (p rest : List Byte) :
    encodeFrame c p ++ rest = prefixByte :: (prefixByte ^^^ 0xFF) :: c :: hi (sizeField p) :: lo (sizeField p) ::
      (p ++ (hi (chksum c p) :: lo (chksum c p) :: suffixByte :: rest)) := by
  simp [encodeFrame]

/-- What parses as a frame is that frame's encoding. -/
theorem bytes_of_parseFrame (c : Byte) (bs p rest : List Byte) (h : parseFrame c bs = .frame p rest) :
    p.length ≤ 65529 ∧ bs = encodeFrame c p ++ rest := by
  unfold parseFrame at h
  split at h
  · cases h
  split at h
  case isFalse => cases h
  rename_i b r hb
  subst hb
  unfold parseHeader at h
  split at h
  case h_2 => cases h
  split at h
  case isFalse => cases h
  rename_i h0 h1 r1 hh
  obtain ⟨rfl, rfl⟩ := hh
  unfold parseSize at h
  split at h
  case h_2 => cases h
  rename_i z0 z1 r2
  split at h
  · cases h
  unfold parsePayload at h
  split at h
  · cases h
  rename_i hl
  unfold parseTail at h
  split at h
  case h_2 => cases h
  rename_i p' c0 c1 e r3 hd
  split at h
  · cases h
  rename_i hc
  split at h
  · cases h
  rename_i he
  cases h
  have hz := (be16 z0 z1).isLt
  have hlen : (r2.take ((be16 z0 z1).toNat - 6)).length = (be16 z0 z1).toNat - 6 := by
    rw [List.length_take]
    omega
  have hsz : sizeField (r2.take ((be16 z0 z1).toNat - 6)) = be16 z0 z1 := by
    apply BitVec.eq_of_toNat_eq
    rw [sizeField_toNat _ (by omega)]
    omega
  refine ⟨by omega, ?_⟩
  have happ := List.take_append_drop ((be16 z0 z1).toNat - 6) r2
  rw [hd] at happ
  simp only [ne_eq, Decidable.not_not] at hc he
  rw [encodeFrame_append, hsz, hi_be16, lo_be16, hc, hi_be16, lo_be16, ← he, happ]

/-- The encoding of a reply's row is the frame with its payload. -/
theorem encode_of_rxRow (o : Op) (p : List Byte) (i : Instr) (h : rxRow o p = some i) :
    channelOf i = .fromDevice o ∧ encode i = encodeFrame rxCode p := by
  unfold rxRow at h
  split at h <;> (try split at h) <;> cases h
  all_goals (try rename_i hh; subst hh)
  all_goals exact ⟨rfl, rfl⟩

/-- The payload of a host frame's row is the payload it was read from, and its encoding the frame. -/
theorem encode_of_txRow (p : List Byte) : channelOf (txRow p) = .toDevice ∧ txRow p ≠ .synch ∧
    encode (txRow p) = encodeFrame txCode p := by
  unfold txRow
  split
  · rename_i h
    subst h
    exact ⟨rfl, by decide, rfl⟩
  split
  · rename_i h
    subst h
    exact ⟨rfl, by decide, rfl⟩
  split
  · rename_i h
    subst h
    exact ⟨rfl, by decide, rfl⟩
  split
  · split
    · rename_i hh
      obtain ⟨rfl, rfl, rfl⟩ := hh
      exact ⟨rfl, by simp, by simp [encode, writePayload, hi_be16, lo_be16]⟩
    split
    · rename_i hh
      obtain ⟨rfl, rfl, rfl⟩ := hh
      exact ⟨rfl, by simp, by simp [encode, baudSetPayload, hi_be16, lo_be16]⟩
    · exact ⟨rfl, by simp, rfl⟩
  · exact ⟨rfl, by simp, rfl⟩

namespace Machine

/-- Executing the instruction a delivery decodes to is the arrival of the bytes. -/
theorem exec_of_decode_fromDevice (o : Op) (bytes : List Byte) (i : Instr) (s : State)
    (h : decode (.fromDevice o) bytes = .ok (i, [])) : exec i s = arrive bytes s := by
  unfold decode at h
  split at h
  · cases h
  split at h
  case h_1 h' => cases h'
  case h_2 h' => cases h'
  rename_i h'
  cases h'
  split at h
  · cases h
  · cases h
  rename_i p r hp
  split at h
  case h_2 => cases h
  rename_i i' hi
  cases h
  obtain ⟨_, hb⟩ := bytes_of_parseFrame _ _ _ _ hp
  obtain ⟨hc, he⟩ := encode_of_rxRow _ _ _ hi
  rw [hb, List.append_nil, ← he]
  cases i <;> first | rfl | (simp [channelOf] at hc)

end Machine
end Sys2Proof
end

