-- ==== Sys2Proof/Laws/Memory.lean ====
section
/-!
SUPPORT. The laws of the byte buffers: a write is read back, leaves every other byte alone, and keeps the canonical form.
-/

namespace Sys2Proof.Machine

@[simp] theorem Memory.read_nil (a : Nat) : Memory.read [] a = none := rfl

theorem Memory.read_write_same (m : Memory) (a : Nat) (b : Byte) : (m.write a b).read a = some b := by
  induction m with
  | nil => simp [Memory.write, Memory.read]
  | cons c rest ih =>
      obtain ⟨x, v⟩ := c
      unfold Memory.write
      split
      · simp [Memory.read]
      · split
        · simp [Memory.read]
        · have : x ≠ a := by omega
          simp [Memory.read, this, ih]

theorem Memory.read_write_other (m : Memory) (a k : Nat) (b : Byte) (h : k ≠ a) : (m.write a b).read k = m.read k := by
  induction m with
  | nil => simp [Memory.write, Memory.read, Ne.symm h]
  | cons c rest ih =>
      obtain ⟨x, v⟩ := c
      unfold Memory.write
      split
      · simp [Memory.read, Ne.symm h]
      · split
        · rename_i hx
          subst hx
          simp [Memory.read, Ne.symm h]
        · simp [Memory.read, ih]

theorem Memory.read_write (m : Memory) (a k : Nat) (b : Byte) :
    (m.write a b).read k = if k = a then some b else m.read k := by
  split
  · rename_i h
    subst h
    exact Memory.read_write_same m k b
  · rename_i h
    exact Memory.read_write_other m a k b h

/-- The cells of a write are the written one and old ones. -/
theorem Memory.mem_write (m : Memory) (a : Nat) (b : Byte) (c : Host.Cell) (h : c ∈ m.write a b) : c = (a, b) ∨ c ∈ m := by
  induction m with
  | nil => simpa [Memory.write] using h
  | cons d rest ih =>
      obtain ⟨x, v⟩ := d
      unfold Memory.write at h
      split at h
      · simpa using h
      · split at h
        · rcases List.mem_cons.mp h with h | h
          · exact .inl h
          · exact .inr (List.mem_cons_of_mem _ h)
        · rcases List.mem_cons.mp h with h | h
          · exact .inr (h ▸ List.mem_cons_self)
          · rcases ih h with h | h
            · exact .inl h
            · exact .inr (List.mem_cons_of_mem _ h)

theorem Memory.pairwise_write (m : Memory) (a : Nat) (b : Byte) (h : m.Pairwise (fun c d => c.1 < d.1)) :
    (m.write a b).Pairwise (fun c d => c.1 < d.1) := by
  induction m with
  | nil => simp [Memory.write]
  | cons d rest ih =>
      obtain ⟨x, v⟩ := d
      obtain ⟨h1, h2⟩ := List.pairwise_cons.mp h
      unfold Memory.write
      split
      · rename_i hx
        refine List.pairwise_cons.mpr ⟨fun c hc => ?_, h⟩
        rcases List.mem_cons.mp hc with rfl | hc
        · exact hx
        · exact Nat.lt_trans hx (h1 c hc)
      · split
        · rename_i hx
          exact List.pairwise_cons.mpr ⟨fun c hc => hx ▸ h1 c hc, h2⟩
        · refine List.pairwise_cons.mpr ⟨fun c hc => ?_, ih h2⟩
          rcases Memory.mem_write rest a b c hc with rfl | hc
          · show x < a
            omega
          · exact h1 c hc

/-- A write inside the buffer keeps the canonical form. -/
theorem Memory.wf_write (m : Memory) (a : Nat) (b : Byte) (h : m.wf) (ha : a < bufSize) : (m.write a b).wf := by
  refine ⟨Memory.pairwise_write m a b h.1, fun c hc => ?_⟩
  rcases Memory.mem_write m a b c hc with rfl | hc
  · exact ha
  · exact h.2 c hc

theorem Memory.wf_nil : Memory.wf [] := ⟨List.Pairwise.nil, fun _ h => absurd h List.not_mem_nil⟩

/-- The buffers are in canonical form after reset. -/
theorem reset_buffers_wf : State.reset.txbuf.wf ∧ State.reset.rxbuf.wf := ⟨Memory.wf_nil, Memory.wf_nil⟩

@[simp] theorem Memory.readRange_zero (m : Memory) (a : Nat) : m.readRange a 0 = some [] := rfl

/-- A range is readable when each of its bytes is. -/
theorem Memory.readRange_isSome (m : Memory) (a n : Nat) (h : ∀ k, k < n → m.read (a + k) ≠ none) :
    ∃ bs, m.readRange a n = some bs := by
  induction n generalizing a with
  | zero => exact ⟨[], rfl⟩
  | succ n ih =>
      obtain ⟨bs, hbs⟩ := ih (a + 1) fun k hk => by
        have := h (k + 1) (by omega)
        rwa [show a + (k + 1) = a + 1 + k by omega] at this
      obtain ⟨b, hb⟩ := Option.ne_none_iff_exists'.mp (h 0 (by omega))
      exact ⟨b :: bs, by simp only [Memory.readRange]; rw [show m.read a = some b from hb, hbs]⟩

theorem Memory.readRange_length (m : Memory) (a n : Nat) (bs : List Byte) (h : m.readRange a n = some bs) :
    bs.length = n := by
  induction n generalizing a bs with
  | zero => simp only [Memory.readRange, Option.some.injEq] at h; simp [← h]
  | succ n ih =>
      simp only [Memory.readRange] at h
      split at h
      · rename_i b bs' _ hbs
        cases h
        simp [ih _ _ hbs]
      · cases h

/-- A write outside a range does not change what the range reads. -/
theorem Memory.readRange_write_outside (m : Memory) (a n k : Nat) (b : Byte) (h : k < a ∨ a + n ≤ k) :
    (m.write k b).readRange a n = m.readRange a n := by
  induction n generalizing a with
  | zero => rfl
  | succ n ih =>
      simp only [Memory.readRange]
      rw [ih (a + 1) (by omega), Memory.read_write_other m k a b (by omega)]

/-- Writing the byte after a range appends it. -/
theorem Memory.readRange_snoc (m : Memory) (a n : Nat) (b : Byte) (bs : List Byte) (h : m.readRange a n = some bs) :
    (m.write (a + n) b).readRange a (n + 1) = some (bs ++ [b]) := by
  induction n generalizing a bs with
  | zero =>
      simp only [Memory.readRange, Option.some.injEq] at h
      subst h
      simp [Memory.readRange, Memory.read_write_same]
  | succ n ih =>
      simp only [Memory.readRange] at h
      split at h
      · rename_i c bs' hc hbs
        cases h
        have := ih (a + 1) bs' hbs
        rw [show a + 1 + n = a + (n + 1) by omega] at this
        rw [Memory.readRange, this, Memory.read_write_other m (a + (n + 1)) a b (by omega), hc]
        rfl
      · cases h

end Sys2Proof.Machine
end

