-- ==== Sys2Proof/Laws/Step.lean ====
section
/-!
SUPPORT. What a CMD write can do, and what a step is, by what stands first in the inbox: the inversion lemmas that proofs about
`exec` and `step` cite.
-/

namespace Sys2Proof.Machine

/-- What a CMD write can do before it reaches the operation's own preconditions (R260). -/
theorem onCmd_cases (v : Byte) (run : State → Host.Outcome State Fault Refusal) (s : State) :
    (s.busy = true ∧ v = 0x02 ∧ onCmd v run s = .next (abort s))
    ∨ (s.busy = true ∧ v ≠ 0x02 ∧ onCmd v run s = .next s)
    ∨ (s.busy = false ∧ s.err = true ∧ v = 0x0F ∧ onCmd v run s = .next (clearErr s))
    ∨ (s.busy = false ∧ s.err = true ∧ v ≠ 0x0F ∧ onCmd v run s = .next s)
    ∨ (s.busy = false ∧ s.err = false ∧ onCmd v run s = run { s with done := false }) := by
  unfold onCmd
  split
  · rename_i hb
    split
    · rename_i hv
      exact .inl ⟨hb, hv, rfl⟩
    · rename_i hv
      exact .inr (.inl ⟨hb, hv, rfl⟩)
  · rename_i hb
    rw [Bool.not_eq_true] at hb
    split
    · rename_i he
      split
      · rename_i hv
        exact .inr (.inr (.inl ⟨hb, he, hv, rfl⟩))
      · rename_i hv
        exact .inr (.inr (.inr (.inl ⟨hb, he, hv, rfl⟩)))
    · rename_i he
      rw [Bool.not_eq_true] at he
      exact .inr (.inr (.inr (.inr ⟨hb, he, rfl⟩)))

/-- What SEND can do. -/
theorem sendFrame_cases (p : List Byte) (s : State) :
    (sending p s = false ∧ sendFrame p s = .next s)
    ∨ (sending p s = true ∧ maxPayload < p.length ∧ sendFrame p s = .fault .payloadTooLong)
    ∨ (sending p s = true ∧ p.length ≤ maxPayload ∧ sendFrame p s = .next (startDecode true
        { emit (((encodeFrame txCode p).drop s.txi).map .write) s with txacc := chksum txCode p, txi := 0 })) := by
  unfold sendFrame
  split
  · rename_i h
    split
    · rename_i hl
      exact .inr (.inr ⟨h, hl, rfl⟩)
    · rename_i hl
      exact .inr (.inl ⟨h, Nat.lt_of_not_le hl, rfl⟩)
  · rename_i h
    exact .inl ⟨by simpa using h, rfl⟩

/-- The bytes of a host frame decode to the row of its payload. -/
theorem decode_hostFrame (p : List Byte) (h : p.length ≤ 65529) :
    decode .toDevice (encodeFrame txCode p) = .ok (txRow p, []) := by
  have he := encodeFrame_append txCode p []
  rw [List.append_nil] at he
  rw [he]
  simp only [decode]
  rw [if_neg (by decide)]
  simp only [parseFrame, parseHeader, parseSize, parsePayload, if_true, and_self, be16_hi_lo, sizeField_toNat p h]
  rw [if_neg (by omega), if_neg (by simp)]
  simp [parseTail, be16_hi_lo]

/-- Executing the row of a payload is SEND of that payload. -/
theorem exec_txRow (p : List Byte) (s : State) : exec (txRow p) s = sendFrame p s := by
  unfold txRow
  split
  · rename_i h
    subst h
    rfl
  split
  · rename_i h
    subst h
    rfl
  split
  · rename_i h
    subst h
    rfl
  split
  · split
    · rename_i hh
      obtain ⟨rfl, rfl, rfl⟩ := hh
      simp [exec, execWrite, writePayload, hi_be16, lo_be16]
    split
    · rename_i hh
      obtain ⟨rfl, rfl, rfl⟩ := hh
      simp [exec, execBaudSet, baudSetPayload, hi_be16, lo_be16]
    · rfl
  · rfl

/-- With an empty inbox a step is the sequencer's, a whole frame at a time. -/
theorem step_alone (s : State) (h : s.inbox = []) :
    step s = if s.busy = true ∧ s.phase = .tx ∧ s.staged.length ≤ maxPayload then sendFrame s.staged s else blockStep s := by
  have hs : ({ s with inbox := s.inbox.tail } : State) = s := by
    obtain ⟨⟩ := s
    simp_all
  have hfetch : fetch s =
      if s.busy && decide (s.phase = .tx) && decide (s.staged.length ≤ maxPayload) then
        some (.toDevice, encodeFrame txCode s.staged)
      else if s.busy && decide (s.phase = .probe) && s.counted then some (.toDevice, [synchByte])
      else none := by
    unfold fetch
    rw [h]
  have hoth : otherwise s = blockStep s := by
    unfold otherwise
    rw [h]
  unfold step
  rw [hfetch]
  by_cases h1 : s.busy = true ∧ s.phase = .tx ∧ s.staged.length ≤ maxPayload
  · rw [if_pos h1, if_pos (by simp [h1.1, h1.2.1, h1.2.2])]
    have hl : s.staged.length ≤ 65529 := h1.2.2
    simp only [decode_hostFrame _ hl, hs, exec_txRow]
  · rw [if_neg h1, if_neg (by simpa [and_assoc] using h1)]
    by_cases h2 : s.busy = true ∧ s.phase = .probe ∧ s.counted = true
    · rw [if_pos (by simp [h2.1, h2.2.1, h2.2.2])]
      have hd : decode .toDevice [synchByte] = .ok (.synch, []) := by decide
      simp only [hd, hs]
      simp [exec, blockStep, h2.1, h2.2.1, h2.2.2]
    · rw [if_neg (by simpa [and_assoc] using h2), hoth]

/-- With a CMD write first in the inbox a step runs the instruction of its value. -/
theorem step_cmd (s : State) (v : W32) (rest : List Event) (h : s.inbox = .writeReg .cmd v :: rest) :
    step s = exec (decodeCmd (v.setWidth 8)) { s with inbox := rest } := by
  unfold step fetch
  simp only [h]
  rfl

/-- With any other event first in the inbox a step is that event; a delivery is an arrival, whatever its bytes are. -/
theorem step_event (s : State) (e : Event) (rest : List Event) (h : s.inbox = e :: rest)
    (hc : ∀ v, e ≠ .writeReg .cmd v) : step s = handleEvent e { s with inbox := rest } := by
  have hoth : otherwise s = handleEvent e { s with inbox := rest } := by
    unfold otherwise
    rw [h]
  unfold step fetch
  simp only [h]
  cases e with
  | writeReg r v => cases r <;> first | exact absurd rfl (hc v) | exact hoth
  | receive bytes =>
      simp only [List.tail_cons]
      split
      · rename_i i hd
        exact exec_of_decode_fromDevice _ _ _ _ hd
      · exact hoth
  | _ => exact hoth

end Sys2Proof.Machine
end

