-- ==== Sys2Proof/Laws/Command.lean ====
section
/-!
SUPPORT. Everything a CMD write can do: the outcomes of an accepted command, and of any CMD value in any state.
-/

namespace Sys2Proof.Machine

/-- What the command of the value `v` answers once it reaches its own preconditions, from the state `s` with DONE cleared. -/
inductive Accepted (v : Byte) (s : State) : Host.Outcome State Fault Refusal → Prop
  | refused (d : RefusedDetail) (info : W16) : Accepted v s (.next (raise (.refused d) info s))
  | capacity (hv : v = 0x07) (ho : s.opened = true) (hs : s.session = true) : Accepted v s (.next (raise .capacity 0 s))
  | nop (hv : v = 0x00) : Accepted v s (.next { s with done := true })
  | close (hv : v = 0x02) : Accepted v s (.next { closeLink s with done := true })
  | clrerr (hv : v = 0x0F) : Accepted v s (.next (clearErr s))
  | openPort (hv : v = 0x01) (ho : s.opened = false) : Accepted v s (.next { emit [.openPort Config.port] s with
      busy := true, op := .openPort, phase := .opening, expect := none })
  | identify (hv : v = 0x03) (ho : s.opened = true) (hs : s.session = false) : Accepted v s (.next { tpFlush s with
      busy := true, op := .identify, phase := .probe, counted := false, iter := 0, expect := none })
  | setbaud (hv : v = 0x04) (ho : s.opened = true) (hs : s.session = true) (f : Byte) (c k : W16) :
      Accepted v s (.next (startExchange .setbaud (baudSetPayload f c) { s with count := k }))
  | checkbaud (hv : v = 0x05) (ho : s.opened = true) (hs : s.session = true) :
      Accepted v s (.next (startExchange .checkbaud (checkPayload s.chipVer) (tpSetBaud s.baudTgt s)))
  | erase (hv : v = 0x06) (ho : s.opened = true) (hs : s.session = true) : Accepted v s (.next (startExchange .erase erasePayload s))
  | write (hv : v = 0x07) (ho : s.opened = true) (hs : s.session = true) (d : List Byte) (hd : d.length + 5 ≤ 65529) :
      Accepted v s (.next (startExchange .write (writePayload s.addr d) s))
  | xfer (hv : v = 0x08) (ho : s.opened = true) (d : List Byte) (hd : d.length ≤ 65529) : Accepted v s (.next (startExchange .xfer d s))
  | unwritten : Accepted v s (.fault .txUnwritten)

/-- What a write of the value `v` to CMD answers. -/
inductive CmdOutcome (v : Byte) (s : State) : Host.Outcome State Fault Refusal → Prop
  | abort (hb : s.busy = true) (hv : v = 0x02) : CmdOutcome v s (.next (abort s))
  | dropped (h : s.busy = true ∨ s.err = true) : CmdOutcome v s (.next s)
  | clrerr (hb : s.busy = false) (hv : v = 0x0F) : CmdOutcome v s (.next (clearErr s))
  | accepted (hb : s.busy = false) (he : s.err = false) (o : Host.Outcome State Fault Refusal)
      (h : Accepted v { s with done := false } o) : CmdOutcome v s o

theorem onCmd_outcome (v : Byte) (run : State → Host.Outcome State Fault Refusal) (s : State)
    (h : ∀ s, Accepted v s (run s)) : CmdOutcome v s (onCmd v run s) := by
  rcases onCmd_cases v run s with ⟨a, b, c⟩ | ⟨a, b, c⟩ | ⟨a, b, c, d⟩ | ⟨a, b, c, d⟩ | ⟨a, b, c⟩
  · rw [c]; exact .abort a b
  · rw [c]; exact .dropped (.inl a)
  · rw [d]; exact .clrerr a c
  · rw [d]; exact .dropped (.inr b)
  · rw [c]; exact .accepted a b _ (h _)

theorem txData_length (s : State) (d : List Byte) (h : txData s = some d) : d.length = s.txlen.toNat :=
  Memory.readRange_length _ _ _ _ h

/-- The seventeen cases of a CMD value. -/
theorem cmd_values (v : Byte) :
    v >>> 4 ≠ 0 ∨ v = 0 ∨ v = 1 ∨ v = 2 ∨ v = 3 ∨ v = 4 ∨ v = 5 ∨ v = 6 ∨ v = 7 ∨ v = 8 ∨ v = 9 ∨ v = 10 ∨ v = 11 ∨ v = 12
      ∨ v = 13 ∨ v = 14 ∨ v = 15 := by
  revert v; decide

/-- Everything the instruction of a CMD value can do. -/
theorem exec_cmd_outcome (v : Byte) (s : State) : CmdOutcome v s (exec (decodeCmd v) s) := by
  have refuse : ∀ w, CmdOutcome w s (refuseOp w s) := by
    intro w; exact onCmd_outcome _ _ _ fun s => .refused _ _
  rcases cmd_values v with h | rfl | rfl | rfl | rfl | rfl | rfl | rfl | rfl | rfl | rfl | rfl | rfl | rfl | rfl | rfl
    | rfl
  · rw [decodeCmd, if_pos h]; exact refuse v
  · exact onCmd_outcome _ _ _ fun s => .nop rfl
  · show CmdOutcome 0x01 s (execOpen s)
    unfold execOpen
    refine onCmd_outcome _ _ _ fun s => ?_
    split
    · exact .refused _ _
    · exact .openPort rfl (by simp_all)
  · exact onCmd_outcome _ _ _ fun s => .close rfl
  · show CmdOutcome 0x03 s (execIdentify s)
    unfold execIdentify
    refine onCmd_outcome _ _ _ fun s => ?_
    split
    · exact .refused _ _
    · split
      · exact .refused _ _
      · exact .identify rfl (by simp_all) (by simp_all)
  · show CmdOutcome 0x04 s (execSetbaud s)
    unfold execSetbaud setbaudWith
    refine onCmd_outcome _ _ _ fun s => ?_
    split
    · exact .refused _ _
    split
    · exact .refused _ _
    split
    · exact .refused _ _
    · exact .setbaud rfl (by simp_all) (by simp_all) _ _ _
  · show CmdOutcome 0x05 s (execCheckbaud s)
    unfold execCheckbaud
    refine onCmd_outcome _ _ _ fun s => ?_
    split
    · exact .refused _ _
    split
    · exact .refused _ _
    · exact .checkbaud rfl (by simp_all) (by simp_all)
  · show CmdOutcome 0x06 s (execEraseOp s)
    unfold execEraseOp
    refine onCmd_outcome _ _ _ fun s => ?_
    split
    · exact .refused _ _
    split
    · exact .refused _ _
    · exact .erase rfl (by simp_all) (by simp_all)
  · show CmdOutcome 0x07 s (execWriteOp s)
    unfold execWriteOp
    refine onCmd_outcome _ _ _ fun s => ?_
    split
    · exact .refused _ _
    split
    · exact .refused _ _
    split
    · exact .capacity rfl (by simp_all) (by simp_all)
    split
    · exact .refused _ _
    split
    · exact .unwritten
    · rename_i ht _ d hd
      refine .write rfl (by simp_all) (by simp_all) _ ?_
      rw [txData_length _ _ hd]
      unfold tooLong at ht
      rw [decide_eq_true_eq, maxPayload_eq] at ht
      omega
  · show CmdOutcome 0x08 s (execXfer s)
    unfold execXfer
    refine onCmd_outcome _ _ _ fun s => ?_
    split
    · exact .refused _ _
    split
    · exact .refused _ _
    split
    · exact .unwritten
    · rename_i ht _ d hd
      refine .xfer rfl (by simp_all) _ ?_
      rw [txData_length _ _ hd]
      unfold tooLong at ht
      rw [decide_eq_true_eq, maxPayload_eq] at ht
      omega
  · exact refuse _
  · exact refuse _
  · exact refuse _
  · exact refuse _
  · exact refuse _
  · exact refuse _
  · exact onCmd_outcome _ _ _ fun s => .clrerr rfl

end Sys2Proof.Machine
end

