-- ==== Sys2Proof/Laws/PerInstr.lean ====
section
/-!
SUPPORT. Statements made of every instruction: the length of its encoding is the one file 30 gives its row (R92, R102, R107 to R112,
R120), and the encoding begins as the row's match and mask say, on the row's direction (R129).
-/

namespace Sys2Proof.Laws.EncodeLength

/-- How many bytes the row occupies: a CMD value and the probe one, a frame eight more than its payload. -/
def rowLength : Instr → Nat
  | .baudSet _ _ => 16
  | .baudCheckShort => 9
  | .baudCheckExt => 13
  | .erase => 13
  | .write _ d => 13 + d.length
  | .xferFrame p => 8 + p.length
  | .rIdent p => 8 + p.length
  | .rBaudSet q => 9 + q.length
  | .rBaudCheck q => 9 + q.length
  | .rErase q => 9 + q.length
  | .rWrite q => 9 + q.length
  | .rAny p => 8 + p.length
  | .synch | .nop | .openOp | .close | .identify | .setbaud | .checkbaud | .eraseOp | .writeOp | .xfer => 1
  | .reserved9 | .reservedA | .reservedB | .reservedC | .reservedD | .reservedE | .clrerr | .reservedHi _ => 1

/-- The encoding of an instruction is as long as its row. -/
def Statement (i : Instr) : Prop := (encode i).length = rowLength i

theorem synch : Statement .synch := rfl
theorem baudSet (f : Byte) (c : W16) : Statement (.baudSet f c) := rfl
theorem baudCheckShort : Statement .baudCheckShort := rfl
theorem baudCheckExt : Statement .baudCheckExt := rfl
theorem erase : Statement .erase := rfl
theorem write (a : W16) (d : List Byte) : Statement (.write a d) := by
  simp [Statement, encode, encodeFrame, rowLength, writePayload]
  omega
theorem xferFrame (p : List Byte) : Statement (.xferFrame p) := by
  simp [Statement, encode, encodeFrame, rowLength]
  omega
theorem rIdent (p : List Byte) : Statement (.rIdent p) := by
  simp [Statement, encode, encodeFrame, rowLength]
  omega
theorem rBaudSet (q : List Byte) : Statement (.rBaudSet q) := by
  simp [Statement, encode, encodeFrame, rowLength]
  omega
theorem rBaudCheck (q : List Byte) : Statement (.rBaudCheck q) := by
  simp [Statement, encode, encodeFrame, rowLength]
  omega
theorem rErase (q : List Byte) : Statement (.rErase q) := by
  simp [Statement, encode, encodeFrame, rowLength]
  omega
theorem rWrite (q : List Byte) : Statement (.rWrite q) := by
  simp [Statement, encode, encodeFrame, rowLength]
  omega
theorem rAny (p : List Byte) : Statement (.rAny p) := by
  simp [Statement, encode, encodeFrame, rowLength]
  omega
theorem nop : Statement .nop := rfl
theorem openOp : Statement .openOp := rfl
theorem close : Statement .close := rfl
theorem identify : Statement .identify := rfl
theorem setbaud : Statement .setbaud := rfl
theorem checkbaud : Statement .checkbaud := rfl
theorem eraseOp : Statement .eraseOp := rfl
theorem writeOp : Statement .writeOp := rfl
theorem xfer : Statement .xfer := rfl
theorem reserved9 : Statement .reserved9 := rfl
theorem reservedA : Statement .reservedA := rfl
theorem reservedB : Statement .reservedB := rfl
theorem reservedC : Statement .reservedC := rfl
theorem reservedD : Statement .reservedD := rfl
theorem reservedE : Statement .reservedE := rfl
theorem clrerr : Statement .clrerr := rfl
theorem reservedHi (v : Byte) : Statement (.reservedHi v) := rfl

end Sys2Proof.Laws.EncodeLength

namespace Sys2Proof.Laws.EncodeFitsRow

/-- The encoding of an instruction begins as its row of the opcode table says, and travels in the row's direction. -/
def Statement (i : Instr) : Prop :=
  (tableRow i).fits (encode i) = true ∧ (tableRow i).direction = (channelOf i).direction

theorem synch : Statement .synch := ⟨rfl, rfl⟩
theorem baudSet (f : Byte) (c : W16) : Statement (.baudSet f c) := by
  simp [Statement, tableRow, TableRow.fits, encode, encodeFrame, baudSetPayload, sizeField, channelOf, Channel.direction]
  decide
theorem baudCheckShort : Statement .baudCheckShort := ⟨rfl, rfl⟩
theorem baudCheckExt : Statement .baudCheckExt := ⟨rfl, rfl⟩
theorem erase : Statement .erase := ⟨rfl, rfl⟩
theorem write (a : W16) (d : List Byte) : Statement (.write a d) := by
  simp [Statement, tableRow, TableRow.fits, encode, encodeFrame, writePayload, channelOf, Channel.direction]
  decide
theorem xferFrame (p : List Byte) : Statement (.xferFrame p) := by
  simp [Statement, tableRow, TableRow.fits, encode, encodeFrame, channelOf, Channel.direction]
  decide
theorem rIdent (p : List Byte) : Statement (.rIdent p) := by
  simp [Statement, tableRow, TableRow.fits, encode, encodeFrame, channelOf, Channel.direction]
  decide

/-- The four replies that a first payload byte names. -/
theorem reply (m : String) (c : Byte) (q : List Byte) : (replyRow m c).fits (encodeFrame rxCode (c :: q)) = true := by
  have hc : 255#8 &&& c = c := BitVec.allOnes_and
  simp [replyRow, TableRow.fits, encodeFrame, hc]
  decide

theorem rBaudSet (q : List Byte) : Statement (.rBaudSet q) := ⟨reply _ _ q, rfl⟩
theorem rBaudCheck (q : List Byte) : Statement (.rBaudCheck q) := ⟨reply _ _ q, rfl⟩
theorem rErase (q : List Byte) : Statement (.rErase q) := ⟨reply _ _ q, rfl⟩
theorem rWrite (q : List Byte) : Statement (.rWrite q) := ⟨reply _ _ q, rfl⟩
theorem rAny (p : List Byte) : Statement (.rAny p) := by
  simp [Statement, tableRow, TableRow.fits, encode, encodeFrame, channelOf, Channel.direction]
  decide
theorem nop : Statement .nop := ⟨rfl, rfl⟩
theorem openOp : Statement .openOp := ⟨rfl, rfl⟩
theorem close : Statement .close := ⟨rfl, rfl⟩
theorem identify : Statement .identify := ⟨rfl, rfl⟩
theorem setbaud : Statement .setbaud := ⟨rfl, rfl⟩
theorem checkbaud : Statement .checkbaud := ⟨rfl, rfl⟩
theorem eraseOp : Statement .eraseOp := ⟨rfl, rfl⟩
theorem writeOp : Statement .writeOp := ⟨rfl, rfl⟩
theorem xfer : Statement .xfer := ⟨rfl, rfl⟩
theorem reserved9 : Statement .reserved9 := ⟨rfl, rfl⟩
theorem reservedA : Statement .reservedA := ⟨rfl, rfl⟩
theorem reservedB : Statement .reservedB := ⟨rfl, rfl⟩
theorem reservedC : Statement .reservedC := ⟨rfl, rfl⟩
theorem reservedD : Statement .reservedD := ⟨rfl, rfl⟩
theorem reservedE : Statement .reservedE := ⟨rfl, rfl⟩
theorem clrerr : Statement .clrerr := ⟨rfl, rfl⟩
theorem reservedHi (v : Byte) : Statement (.reservedHi v) := by
  simp [Statement, tableRow, TableRow.fits, encode, channelOf, Channel.direction]

end Sys2Proof.Laws.EncodeFitsRow
end

