-- ==== Sys2Proof/Laws/State.lean ====
section
/-!
SUPPORT. One lemma for each field and each named update of the state, so that no proof unfolds a record update.
-/

namespace Sys2Proof.Machine

/-! ### `emit` -/

@[simp] theorem emit_busy (calls : List TpCall) (s : State) : (emit calls s).busy = s.busy := rfl
@[simp] theorem emit_opened (calls : List TpCall) (s : State) : (emit calls s).opened = s.opened := rfl
@[simp] theorem emit_session (calls : List TpCall) (s : State) : (emit calls s).session = s.session := rfl
@[simp] theorem emit_done (calls : List TpCall) (s : State) : (emit calls s).done = s.done := rfl
@[simp] theorem emit_err (calls : List TpCall) (s : State) : (emit calls s).err = s.err := rfl
@[simp] theorem emit_tmoLong (calls : List TpCall) (s : State) : (emit calls s).tmoLong = s.tmoLong := rfl
@[simp] theorem emit_errReg (calls : List TpCall) (s : State) : (emit calls s).errReg = s.errReg := rfl
@[simp] theorem emit_errInfo (calls : List TpCall) (s : State) : (emit calls s).errInfo = s.errInfo := rfl
@[simp] theorem emit_baudInit (calls : List TpCall) (s : State) : (emit calls s).baudInit = s.baudInit := rfl
@[simp] theorem emit_baudTgt (calls : List TpCall) (s : State) : (emit calls s).baudTgt = s.baudTgt := rfl
@[simp] theorem emit_wait (calls : List TpCall) (s : State) : (emit calls s).wait = s.wait := rfl
@[simp] theorem emit_addr (calls : List TpCall) (s : State) : (emit calls s).addr = s.addr := rfl
@[simp] theorem emit_txlen (calls : List TpCall) (s : State) : (emit calls s).txlen = s.txlen := rfl
@[simp] theorem emit_rxlen (calls : List TpCall) (s : State) : (emit calls s).rxlen = s.rxlen := rfl
@[simp] theorem emit_baudCur (calls : List TpCall) (s : State) : (emit calls s).baudCur = s.baudCur := rfl
@[simp] theorem emit_fosc (calls : List TpCall) (s : State) : (emit calls s).fosc = s.fosc := rfl
@[simp] theorem emit_chipId (calls : List TpCall) (s : State) : (emit calls s).chipId = s.chipId := rfl
@[simp] theorem emit_chipVer (calls : List TpCall) (s : State) : (emit calls s).chipVer = s.chipVer := rfl
@[simp] theorem emit_flashSz (calls : List TpCall) (s : State) : (emit calls s).flashSz = s.flashSz := rfl
@[simp] theorem emit_count (calls : List TpCall) (s : State) : (emit calls s).count = s.count := rfl
@[simp] theorem emit_iter (calls : List TpCall) (s : State) : (emit calls s).iter = s.iter := rfl
@[simp] theorem emit_chipName (calls : List TpCall) (s : State) : (emit calls s).chipName = s.chipName := rfl
@[simp] theorem emit_op (calls : List TpCall) (s : State) : (emit calls s).op = s.op := rfl
@[simp] theorem emit_phase (calls : List TpCall) (s : State) : (emit calls s).phase = s.phase := rfl
@[simp] theorem emit_txi (calls : List TpCall) (s : State) : (emit calls s).txi = s.txi := rfl
@[simp] theorem emit_rxs (calls : List TpCall) (s : State) : (emit calls s).rxs = s.rxs := rfl
@[simp] theorem emit_rxcnt (calls : List TpCall) (s : State) : (emit calls s).rxcnt = s.rxcnt := rfl
@[simp] theorem emit_txacc (calls : List TpCall) (s : State) : (emit calls s).txacc = s.txacc := rfl
@[simp] theorem emit_rxacc (calls : List TpCall) (s : State) : (emit calls s).rxacc = s.rxacc := rfl
@[simp] theorem emit_rxhdr0 (calls : List TpCall) (s : State) : (emit calls s).rxhdr0 = s.rxhdr0 := rfl
@[simp] theorem emit_rxhdr1 (calls : List TpCall) (s : State) : (emit calls s).rxhdr1 = s.rxhdr1 := rfl
@[simp] theorem emit_rxsize (calls : List TpCall) (s : State) : (emit calls s).rxsize = s.rxsize := rfl
@[simp] theorem emit_rxchk (calls : List TpCall) (s : State) : (emit calls s).rxchk = s.rxchk := rfl
@[simp] theorem emit_rxsuf (calls : List TpCall) (s : State) : (emit calls s).rxsuf = s.rxsuf := rfl
@[simp] theorem emit_staged (calls : List TpCall) (s : State) : (emit calls s).staged = s.staged := rfl
@[simp] theorem emit_expect (calls : List TpCall) (s : State) : (emit calls s).expect = s.expect := rfl
@[simp] theorem emit_txbuf (calls : List TpCall) (s : State) : (emit calls s).txbuf = s.txbuf := rfl
@[simp] theorem emit_rxbuf (calls : List TpCall) (s : State) : (emit calls s).rxbuf = s.rxbuf := rfl
@[simp] theorem emit_rxq (calls : List TpCall) (s : State) : (emit calls s).rxq = s.rxq := rfl
@[simp] theorem emit_counted (calls : List TpCall) (s : State) : (emit calls s).counted = s.counted := rfl
@[simp] theorem emit_out (calls : List TpCall) (s : State) : (emit calls s).out = s.out ++ calls := rfl
@[simp] theorem emit_inbox (calls : List TpCall) (s : State) : (emit calls s).inbox = s.inbox := rfl
@[simp] theorem emit_fresh (calls : List TpCall) (s : State) : (emit calls s).fresh = s.fresh := rfl

/-! ### `tpSetBaud` -/

@[simp] theorem tpSetBaud_busy (v : W32) (s : State) : (tpSetBaud v s).busy = s.busy := rfl
@[simp] theorem tpSetBaud_opened (v : W32) (s : State) : (tpSetBaud v s).opened = s.opened := rfl
@[simp] theorem tpSetBaud_session (v : W32) (s : State) : (tpSetBaud v s).session = s.session := rfl
@[simp] theorem tpSetBaud_done (v : W32) (s : State) : (tpSetBaud v s).done = s.done := rfl
@[simp] theorem tpSetBaud_err (v : W32) (s : State) : (tpSetBaud v s).err = s.err := rfl
@[simp] theorem tpSetBaud_tmoLong (v : W32) (s : State) : (tpSetBaud v s).tmoLong = s.tmoLong := rfl
@[simp] theorem tpSetBaud_errReg (v : W32) (s : State) : (tpSetBaud v s).errReg = s.errReg := rfl
@[simp] theorem tpSetBaud_errInfo (v : W32) (s : State) : (tpSetBaud v s).errInfo = s.errInfo := rfl
@[simp] theorem tpSetBaud_baudInit (v : W32) (s : State) : (tpSetBaud v s).baudInit = s.baudInit := rfl
@[simp] theorem tpSetBaud_baudTgt (v : W32) (s : State) : (tpSetBaud v s).baudTgt = s.baudTgt := rfl
@[simp] theorem tpSetBaud_wait (v : W32) (s : State) : (tpSetBaud v s).wait = s.wait := rfl
@[simp] theorem tpSetBaud_addr (v : W32) (s : State) : (tpSetBaud v s).addr = s.addr := rfl
@[simp] theorem tpSetBaud_txlen (v : W32) (s : State) : (tpSetBaud v s).txlen = s.txlen := rfl
@[simp] theorem tpSetBaud_rxlen (v : W32) (s : State) : (tpSetBaud v s).rxlen = s.rxlen := rfl
@[simp] theorem tpSetBaud_baudCur (v : W32) (s : State) : (tpSetBaud v s).baudCur = v := rfl
@[simp] theorem tpSetBaud_fosc (v : W32) (s : State) : (tpSetBaud v s).fosc = s.fosc := rfl
@[simp] theorem tpSetBaud_chipId (v : W32) (s : State) : (tpSetBaud v s).chipId = s.chipId := rfl
@[simp] theorem tpSetBaud_chipVer (v : W32) (s : State) : (tpSetBaud v s).chipVer = s.chipVer := rfl
@[simp] theorem tpSetBaud_flashSz (v : W32) (s : State) : (tpSetBaud v s).flashSz = s.flashSz := rfl
@[simp] theorem tpSetBaud_count (v : W32) (s : State) : (tpSetBaud v s).count = s.count := rfl
@[simp] theorem tpSetBaud_iter (v : W32) (s : State) : (tpSetBaud v s).iter = s.iter := rfl
@[simp] theorem tpSetBaud_chipName (v : W32) (s : State) : (tpSetBaud v s).chipName = s.chipName := rfl
@[simp] theorem tpSetBaud_op (v : W32) (s : State) : (tpSetBaud v s).op = s.op := rfl
@[simp] theorem tpSetBaud_phase (v : W32) (s : State) : (tpSetBaud v s).phase = s.phase := rfl
@[simp] theorem tpSetBaud_txi (v : W32) (s : State) : (tpSetBaud v s).txi = s.txi := rfl
@[simp] theorem tpSetBaud_rxs (v : W32) (s : State) : (tpSetBaud v s).rxs = s.rxs := rfl
@[simp] theorem tpSetBaud_rxcnt (v : W32) (s : State) : (tpSetBaud v s).rxcnt = s.rxcnt := rfl
@[simp] theorem tpSetBaud_txacc (v : W32) (s : State) : (tpSetBaud v s).txacc = s.txacc := rfl
@[simp] theorem tpSetBaud_rxacc (v : W32) (s : State) : (tpSetBaud v s).rxacc = s.rxacc := rfl
@[simp] theorem tpSetBaud_rxhdr0 (v : W32) (s : State) : (tpSetBaud v s).rxhdr0 = s.rxhdr0 := rfl
@[simp] theorem tpSetBaud_rxhdr1 (v : W32) (s : State) : (tpSetBaud v s).rxhdr1 = s.rxhdr1 := rfl
@[simp] theorem tpSetBaud_rxsize (v : W32) (s : State) : (tpSetBaud v s).rxsize = s.rxsize := rfl
@[simp] theorem tpSetBaud_rxchk (v : W32) (s : State) : (tpSetBaud v s).rxchk = s.rxchk := rfl
@[simp] theorem tpSetBaud_rxsuf (v : W32) (s : State) : (tpSetBaud v s).rxsuf = s.rxsuf := rfl
@[simp] theorem tpSetBaud_staged (v : W32) (s : State) : (tpSetBaud v s).staged = s.staged := rfl
@[simp] theorem tpSetBaud_expect (v : W32) (s : State) : (tpSetBaud v s).expect = s.expect := rfl
@[simp] theorem tpSetBaud_txbuf (v : W32) (s : State) : (tpSetBaud v s).txbuf = s.txbuf := rfl
@[simp] theorem tpSetBaud_rxbuf (v : W32) (s : State) : (tpSetBaud v s).rxbuf = s.rxbuf := rfl
@[simp] theorem tpSetBaud_rxq (v : W32) (s : State) : (tpSetBaud v s).rxq = s.rxq := rfl
@[simp] theorem tpSetBaud_counted (v : W32) (s : State) : (tpSetBaud v s).counted = s.counted := rfl
@[simp] theorem tpSetBaud_out (v : W32) (s : State) : (tpSetBaud v s).out = s.out ++ [.setBaud v] := rfl
@[simp] theorem tpSetBaud_inbox (v : W32) (s : State) : (tpSetBaud v s).inbox = s.inbox := rfl
@[simp] theorem tpSetBaud_fresh (v : W32) (s : State) : (tpSetBaud v s).fresh = s.fresh := rfl

/-! ### `tpSetTimeout` -/

@[simp] theorem tpSetTimeout_busy (long : Bool) (s : State) : (tpSetTimeout long s).busy = s.busy := rfl
@[simp] theorem tpSetTimeout_opened (long : Bool) (s : State) : (tpSetTimeout long s).opened = s.opened := rfl
@[simp] theorem tpSetTimeout_session (long : Bool) (s : State) : (tpSetTimeout long s).session = s.session := rfl
@[simp] theorem tpSetTimeout_done (long : Bool) (s : State) : (tpSetTimeout long s).done = s.done := rfl
@[simp] theorem tpSetTimeout_err (long : Bool) (s : State) : (tpSetTimeout long s).err = s.err := rfl
@[simp] theorem tpSetTimeout_tmoLong (long : Bool) (s : State) : (tpSetTimeout long s).tmoLong = long := rfl
@[simp] theorem tpSetTimeout_errReg (long : Bool) (s : State) : (tpSetTimeout long s).errReg = s.errReg := rfl
@[simp] theorem tpSetTimeout_errInfo (long : Bool) (s : State) : (tpSetTimeout long s).errInfo = s.errInfo := rfl
@[simp] theorem tpSetTimeout_baudInit (long : Bool) (s : State) : (tpSetTimeout long s).baudInit = s.baudInit := rfl
@[simp] theorem tpSetTimeout_baudTgt (long : Bool) (s : State) : (tpSetTimeout long s).baudTgt = s.baudTgt := rfl
@[simp] theorem tpSetTimeout_wait (long : Bool) (s : State) : (tpSetTimeout long s).wait = s.wait := rfl
@[simp] theorem tpSetTimeout_addr (long : Bool) (s : State) : (tpSetTimeout long s).addr = s.addr := rfl
@[simp] theorem tpSetTimeout_txlen (long : Bool) (s : State) : (tpSetTimeout long s).txlen = s.txlen := rfl
@[simp] theorem tpSetTimeout_rxlen (long : Bool) (s : State) : (tpSetTimeout long s).rxlen = s.rxlen := rfl
@[simp] theorem tpSetTimeout_baudCur (long : Bool) (s : State) : (tpSetTimeout long s).baudCur = s.baudCur := rfl
@[simp] theorem tpSetTimeout_fosc (long : Bool) (s : State) : (tpSetTimeout long s).fosc = s.fosc := rfl
@[simp] theorem tpSetTimeout_chipId (long : Bool) (s : State) : (tpSetTimeout long s).chipId = s.chipId := rfl
@[simp] theorem tpSetTimeout_chipVer (long : Bool) (s : State) : (tpSetTimeout long s).chipVer = s.chipVer := rfl
@[simp] theorem tpSetTimeout_flashSz (long : Bool) (s : State) : (tpSetTimeout long s).flashSz = s.flashSz := rfl
@[simp] theorem tpSetTimeout_count (long : Bool) (s : State) : (tpSetTimeout long s).count = s.count := rfl
@[simp] theorem tpSetTimeout_iter (long : Bool) (s : State) : (tpSetTimeout long s).iter = s.iter := rfl
@[simp] theorem tpSetTimeout_chipName (long : Bool) (s : State) : (tpSetTimeout long s).chipName = s.chipName := rfl
@[simp] theorem tpSetTimeout_op (long : Bool) (s : State) : (tpSetTimeout long s).op = s.op := rfl
@[simp] theorem tpSetTimeout_phase (long : Bool) (s : State) : (tpSetTimeout long s).phase = s.phase := rfl
@[simp] theorem tpSetTimeout_txi (long : Bool) (s : State) : (tpSetTimeout long s).txi = s.txi := rfl
@[simp] theorem tpSetTimeout_rxs (long : Bool) (s : State) : (tpSetTimeout long s).rxs = s.rxs := rfl
@[simp] theorem tpSetTimeout_rxcnt (long : Bool) (s : State) : (tpSetTimeout long s).rxcnt = s.rxcnt := rfl
@[simp] theorem tpSetTimeout_txacc (long : Bool) (s : State) : (tpSetTimeout long s).txacc = s.txacc := rfl
@[simp] theorem tpSetTimeout_rxacc (long : Bool) (s : State) : (tpSetTimeout long s).rxacc = s.rxacc := rfl
@[simp] theorem tpSetTimeout_rxhdr0 (long : Bool) (s : State) : (tpSetTimeout long s).rxhdr0 = s.rxhdr0 := rfl
@[simp] theorem tpSetTimeout_rxhdr1 (long : Bool) (s : State) : (tpSetTimeout long s).rxhdr1 = s.rxhdr1 := rfl
@[simp] theorem tpSetTimeout_rxsize (long : Bool) (s : State) : (tpSetTimeout long s).rxsize = s.rxsize := rfl
@[simp] theorem tpSetTimeout_rxchk (long : Bool) (s : State) : (tpSetTimeout long s).rxchk = s.rxchk := rfl
@[simp] theorem tpSetTimeout_rxsuf (long : Bool) (s : State) : (tpSetTimeout long s).rxsuf = s.rxsuf := rfl
@[simp] theorem tpSetTimeout_staged (long : Bool) (s : State) : (tpSetTimeout long s).staged = s.staged := rfl
@[simp] theorem tpSetTimeout_expect (long : Bool) (s : State) : (tpSetTimeout long s).expect = s.expect := rfl
@[simp] theorem tpSetTimeout_txbuf (long : Bool) (s : State) : (tpSetTimeout long s).txbuf = s.txbuf := rfl
@[simp] theorem tpSetTimeout_rxbuf (long : Bool) (s : State) : (tpSetTimeout long s).rxbuf = s.rxbuf := rfl
@[simp] theorem tpSetTimeout_rxq (long : Bool) (s : State) : (tpSetTimeout long s).rxq = s.rxq := rfl
@[simp] theorem tpSetTimeout_counted (long : Bool) (s : State) : (tpSetTimeout long s).counted = s.counted := rfl
@[simp] theorem tpSetTimeout_out (long : Bool) (s : State) : (tpSetTimeout long s).out = s.out ++ [.setTimeout long] := rfl
@[simp] theorem tpSetTimeout_inbox (long : Bool) (s : State) : (tpSetTimeout long s).inbox = s.inbox := rfl
@[simp] theorem tpSetTimeout_fresh (long : Bool) (s : State) : (tpSetTimeout long s).fresh = s.fresh := rfl

/-! ### `tpFlush` -/

@[simp] theorem tpFlush_busy (s : State) : (tpFlush s).busy = s.busy := rfl
@[simp] theorem tpFlush_opened (s : State) : (tpFlush s).opened = s.opened := rfl
@[simp] theorem tpFlush_session (s : State) : (tpFlush s).session = s.session := rfl
@[simp] theorem tpFlush_done (s : State) : (tpFlush s).done = s.done := rfl
@[simp] theorem tpFlush_err (s : State) : (tpFlush s).err = s.err := rfl
@[simp] theorem tpFlush_tmoLong (s : State) : (tpFlush s).tmoLong = s.tmoLong := rfl
@[simp] theorem tpFlush_errReg (s : State) : (tpFlush s).errReg = s.errReg := rfl
@[simp] theorem tpFlush_errInfo (s : State) : (tpFlush s).errInfo = s.errInfo := rfl
@[simp] theorem tpFlush_baudInit (s : State) : (tpFlush s).baudInit = s.baudInit := rfl
@[simp] theorem tpFlush_baudTgt (s : State) : (tpFlush s).baudTgt = s.baudTgt := rfl
@[simp] theorem tpFlush_wait (s : State) : (tpFlush s).wait = s.wait := rfl
@[simp] theorem tpFlush_addr (s : State) : (tpFlush s).addr = s.addr := rfl
@[simp] theorem tpFlush_txlen (s : State) : (tpFlush s).txlen = s.txlen := rfl
@[simp] theorem tpFlush_rxlen (s : State) : (tpFlush s).rxlen = s.rxlen := rfl
@[simp] theorem tpFlush_baudCur (s : State) : (tpFlush s).baudCur = s.baudCur := rfl
@[simp] theorem tpFlush_fosc (s : State) : (tpFlush s).fosc = s.fosc := rfl
@[simp] theorem tpFlush_chipId (s : State) : (tpFlush s).chipId = s.chipId := rfl
@[simp] theorem tpFlush_chipVer (s : State) : (tpFlush s).chipVer = s.chipVer := rfl
@[simp] theorem tpFlush_flashSz (s : State) : (tpFlush s).flashSz = s.flashSz := rfl
@[simp] theorem tpFlush_count (s : State) : (tpFlush s).count = s.count := rfl
@[simp] theorem tpFlush_iter (s : State) : (tpFlush s).iter = s.iter := rfl
@[simp] theorem tpFlush_chipName (s : State) : (tpFlush s).chipName = s.chipName := rfl
@[simp] theorem tpFlush_op (s : State) : (tpFlush s).op = s.op := rfl
@[simp] theorem tpFlush_phase (s : State) : (tpFlush s).phase = s.phase := rfl
@[simp] theorem tpFlush_txi (s : State) : (tpFlush s).txi = s.txi := rfl
@[simp] theorem tpFlush_rxs (s : State) : (tpFlush s).rxs = s.rxs := rfl
@[simp] theorem tpFlush_rxcnt (s : State) : (tpFlush s).rxcnt = s.rxcnt := rfl
@[simp] theorem tpFlush_txacc (s : State) : (tpFlush s).txacc = s.txacc := rfl
@[simp] theorem tpFlush_rxacc (s : State) : (tpFlush s).rxacc = s.rxacc := rfl
@[simp] theorem tpFlush_rxhdr0 (s : State) : (tpFlush s).rxhdr0 = s.rxhdr0 := rfl
@[simp] theorem tpFlush_rxhdr1 (s : State) : (tpFlush s).rxhdr1 = s.rxhdr1 := rfl
@[simp] theorem tpFlush_rxsize (s : State) : (tpFlush s).rxsize = s.rxsize := rfl
@[simp] theorem tpFlush_rxchk (s : State) : (tpFlush s).rxchk = s.rxchk := rfl
@[simp] theorem tpFlush_rxsuf (s : State) : (tpFlush s).rxsuf = s.rxsuf := rfl
@[simp] theorem tpFlush_staged (s : State) : (tpFlush s).staged = s.staged := rfl
@[simp] theorem tpFlush_expect (s : State) : (tpFlush s).expect = s.expect := rfl
@[simp] theorem tpFlush_txbuf (s : State) : (tpFlush s).txbuf = s.txbuf := rfl
@[simp] theorem tpFlush_rxbuf (s : State) : (tpFlush s).rxbuf = s.rxbuf := rfl
@[simp] theorem tpFlush_rxq (s : State) : (tpFlush s).rxq = [] := rfl
@[simp] theorem tpFlush_counted (s : State) : (tpFlush s).counted = s.counted := rfl
@[simp] theorem tpFlush_out (s : State) : (tpFlush s).out = s.out ++ [.flush] := rfl
@[simp] theorem tpFlush_inbox (s : State) : (tpFlush s).inbox = s.inbox := rfl
@[simp] theorem tpFlush_fresh (s : State) : (tpFlush s).fresh = s.fresh := rfl

/-! ### `closeLink` -/

@[simp] theorem closeLink_busy (s : State) : (closeLink s).busy = s.busy := rfl
@[simp] theorem closeLink_opened (s : State) : (closeLink s).opened = false := rfl
@[simp] theorem closeLink_session (s : State) : (closeLink s).session = false := rfl
@[simp] theorem closeLink_done (s : State) : (closeLink s).done = s.done := rfl
@[simp] theorem closeLink_err (s : State) : (closeLink s).err = s.err := rfl
@[simp] theorem closeLink_tmoLong (s : State) : (closeLink s).tmoLong = s.tmoLong := rfl
@[simp] theorem closeLink_errReg (s : State) : (closeLink s).errReg = s.errReg := rfl
@[simp] theorem closeLink_errInfo (s : State) : (closeLink s).errInfo = s.errInfo := rfl
@[simp] theorem closeLink_baudInit (s : State) : (closeLink s).baudInit = s.baudInit := rfl
@[simp] theorem closeLink_baudTgt (s : State) : (closeLink s).baudTgt = s.baudTgt := rfl
@[simp] theorem closeLink_wait (s : State) : (closeLink s).wait = s.wait := rfl
@[simp] theorem closeLink_addr (s : State) : (closeLink s).addr = s.addr := rfl
@[simp] theorem closeLink_txlen (s : State) : (closeLink s).txlen = s.txlen := rfl
@[simp] theorem closeLink_rxlen (s : State) : (closeLink s).rxlen = s.rxlen := rfl
@[simp] theorem closeLink_baudCur (s : State) : (closeLink s).baudCur = s.baudCur := rfl
@[simp] theorem closeLink_fosc (s : State) : (closeLink s).fosc = s.fosc := rfl
@[simp] theorem closeLink_chipId (s : State) : (closeLink s).chipId = s.chipId := rfl
@[simp] theorem closeLink_chipVer (s : State) : (closeLink s).chipVer = s.chipVer := rfl
@[simp] theorem closeLink_flashSz (s : State) : (closeLink s).flashSz = s.flashSz := rfl
@[simp] theorem closeLink_count (s : State) : (closeLink s).count = s.count := rfl
@[simp] theorem closeLink_iter (s : State) : (closeLink s).iter = s.iter := rfl
@[simp] theorem closeLink_chipName (s : State) : (closeLink s).chipName = s.chipName := rfl
@[simp] theorem closeLink_op (s : State) : (closeLink s).op = s.op := rfl
@[simp] theorem closeLink_phase (s : State) : (closeLink s).phase = s.phase := rfl
@[simp] theorem closeLink_txi (s : State) : (closeLink s).txi = s.txi := rfl
@[simp] theorem closeLink_rxs (s : State) : (closeLink s).rxs = s.rxs := rfl
@[simp] theorem closeLink_rxcnt (s : State) : (closeLink s).rxcnt = s.rxcnt := rfl
@[simp] theorem closeLink_txacc (s : State) : (closeLink s).txacc = s.txacc := rfl
@[simp] theorem closeLink_rxacc (s : State) : (closeLink s).rxacc = s.rxacc := rfl
@[simp] theorem closeLink_rxhdr0 (s : State) : (closeLink s).rxhdr0 = s.rxhdr0 := rfl
@[simp] theorem closeLink_rxhdr1 (s : State) : (closeLink s).rxhdr1 = s.rxhdr1 := rfl
@[simp] theorem closeLink_rxsize (s : State) : (closeLink s).rxsize = s.rxsize := rfl
@[simp] theorem closeLink_rxchk (s : State) : (closeLink s).rxchk = s.rxchk := rfl
@[simp] theorem closeLink_rxsuf (s : State) : (closeLink s).rxsuf = s.rxsuf := rfl
@[simp] theorem closeLink_staged (s : State) : (closeLink s).staged = s.staged := rfl
@[simp] theorem closeLink_expect (s : State) : (closeLink s).expect = s.expect := rfl
@[simp] theorem closeLink_txbuf (s : State) : (closeLink s).txbuf = s.txbuf := rfl
@[simp] theorem closeLink_rxbuf (s : State) : (closeLink s).rxbuf = s.rxbuf := rfl
@[simp] theorem closeLink_rxq (s : State) : (closeLink s).rxq = if s.opened then [] else s.rxq := rfl
@[simp] theorem closeLink_counted (s : State) : (closeLink s).counted = s.counted := rfl
@[simp] theorem closeLink_out (s : State) : (closeLink s).out = if s.opened then s.out ++ [.close] else s.out := rfl
@[simp] theorem closeLink_inbox (s : State) : (closeLink s).inbox = s.inbox := rfl
@[simp] theorem closeLink_fresh (s : State) : (closeLink s).fresh = s.fresh := rfl

/-! ### `recordFailure` -/

@[simp] theorem recordFailure_busy (f : Failure) (info : W16) (s : State) : (recordFailure f info s).busy = false := rfl
@[simp] theorem recordFailure_opened (f : Failure) (info : W16) (s : State) : (recordFailure f info s).opened = s.opened := rfl
@[simp] theorem recordFailure_session (f : Failure) (info : W16) (s : State) : (recordFailure f info s).session = s.session := rfl
@[simp] theorem recordFailure_done (f : Failure) (info : W16) (s : State) : (recordFailure f info s).done = false := rfl
@[simp] theorem recordFailure_err (f : Failure) (info : W16) (s : State) : (recordFailure f info s).err = true := rfl
@[simp] theorem recordFailure_tmoLong (f : Failure) (info : W16) (s : State) : (recordFailure f info s).tmoLong = s.tmoLong := rfl
@[simp] theorem recordFailure_errReg (f : Failure) (info : W16) (s : State) : (recordFailure f info s).errReg = f.code := rfl
@[simp] theorem recordFailure_errInfo (f : Failure) (info : W16) (s : State) : (recordFailure f info s).errInfo = info := rfl
@[simp] theorem recordFailure_baudInit (f : Failure) (info : W16) (s : State) : (recordFailure f info s).baudInit = s.baudInit := rfl
@[simp] theorem recordFailure_baudTgt (f : Failure) (info : W16) (s : State) : (recordFailure f info s).baudTgt = s.baudTgt := rfl
@[simp] theorem recordFailure_wait (f : Failure) (info : W16) (s : State) : (recordFailure f info s).wait = s.wait := rfl
@[simp] theorem recordFailure_addr (f : Failure) (info : W16) (s : State) : (recordFailure f info s).addr = s.addr := rfl
@[simp] theorem recordFailure_txlen (f : Failure) (info : W16) (s : State) : (recordFailure f info s).txlen = s.txlen := rfl
@[simp] theorem recordFailure_rxlen (f : Failure) (info : W16) (s : State) : (recordFailure f info s).rxlen = s.rxlen := rfl
@[simp] theorem recordFailure_baudCur (f : Failure) (info : W16) (s : State) : (recordFailure f info s).baudCur = s.baudCur := rfl
@[simp] theorem recordFailure_fosc (f : Failure) (info : W16) (s : State) : (recordFailure f info s).fosc = s.fosc := rfl
@[simp] theorem recordFailure_chipId (f : Failure) (info : W16) (s : State) : (recordFailure f info s).chipId = s.chipId := rfl
@[simp] theorem recordFailure_chipVer (f : Failure) (info : W16) (s : State) : (recordFailure f info s).chipVer = s.chipVer := rfl
@[simp] theorem recordFailure_flashSz (f : Failure) (info : W16) (s : State) : (recordFailure f info s).flashSz = s.flashSz := rfl
@[simp] theorem recordFailure_count (f : Failure) (info : W16) (s : State) : (recordFailure f info s).count = s.count := rfl
@[simp] theorem recordFailure_iter (f : Failure) (info : W16) (s : State) : (recordFailure f info s).iter = s.iter := rfl
@[simp] theorem recordFailure_chipName (f : Failure) (info : W16) (s : State) : (recordFailure f info s).chipName = s.chipName := rfl
@[simp] theorem recordFailure_op (f : Failure) (info : W16) (s : State) : (recordFailure f info s).op = .nothing := rfl
@[simp] theorem recordFailure_phase (f : Failure) (info : W16) (s : State) : (recordFailure f info s).phase = .idle := rfl
@[simp] theorem recordFailure_txi (f : Failure) (info : W16) (s : State) : (recordFailure f info s).txi = s.txi := rfl
@[simp] theorem recordFailure_rxs (f : Failure) (info : W16) (s : State) : (recordFailure f info s).rxs = s.rxs := rfl
@[simp] theorem recordFailure_rxcnt (f : Failure) (info : W16) (s : State) : (recordFailure f info s).rxcnt = s.rxcnt := rfl
@[simp] theorem recordFailure_txacc (f : Failure) (info : W16) (s : State) : (recordFailure f info s).txacc = s.txacc := rfl
@[simp] theorem recordFailure_rxacc (f : Failure) (info : W16) (s : State) : (recordFailure f info s).rxacc = s.rxacc := rfl
@[simp] theorem recordFailure_rxhdr0 (f : Failure) (info : W16) (s : State) : (recordFailure f info s).rxhdr0 = s.rxhdr0 := rfl
@[simp] theorem recordFailure_rxhdr1 (f : Failure) (info : W16) (s : State) : (recordFailure f info s).rxhdr1 = s.rxhdr1 := rfl
@[simp] theorem recordFailure_rxsize (f : Failure) (info : W16) (s : State) : (recordFailure f info s).rxsize = s.rxsize := rfl
@[simp] theorem recordFailure_rxchk (f : Failure) (info : W16) (s : State) : (recordFailure f info s).rxchk = s.rxchk := rfl
@[simp] theorem recordFailure_rxsuf (f : Failure) (info : W16) (s : State) : (recordFailure f info s).rxsuf = s.rxsuf := rfl
@[simp] theorem recordFailure_staged (f : Failure) (info : W16) (s : State) : (recordFailure f info s).staged = s.staged := rfl
@[simp] theorem recordFailure_expect (f : Failure) (info : W16) (s : State) : (recordFailure f info s).expect = s.expect := rfl
@[simp] theorem recordFailure_txbuf (f : Failure) (info : W16) (s : State) : (recordFailure f info s).txbuf = s.txbuf := rfl
@[simp] theorem recordFailure_rxbuf (f : Failure) (info : W16) (s : State) : (recordFailure f info s).rxbuf = s.rxbuf := rfl
@[simp] theorem recordFailure_rxq (f : Failure) (info : W16) (s : State) : (recordFailure f info s).rxq = s.rxq := rfl
@[simp] theorem recordFailure_counted (f : Failure) (info : W16) (s : State) : (recordFailure f info s).counted = s.counted := rfl
@[simp] theorem recordFailure_out (f : Failure) (info : W16) (s : State) : (recordFailure f info s).out = s.out := rfl
@[simp] theorem recordFailure_inbox (f : Failure) (info : W16) (s : State) : (recordFailure f info s).inbox = s.inbox := rfl
@[simp] theorem recordFailure_fresh (f : Failure) (info : W16) (s : State) : (recordFailure f info s).fresh = s.fresh := rfl

/-! ### `raise` (R300 to R303) -/

@[simp] theorem raise_busy (f : Failure) (info : W16) (s : State) : (raise f info s).busy = false := by
  unfold raise; split <;> rfl
@[simp] theorem raise_opened (f : Failure) (info : W16) (s : State) : (raise f info s).opened = (!f.fatal && s.opened) := by
  cases h : f.fatal <;> simp [raise, h]
@[simp] theorem raise_session (f : Failure) (info : W16) (s : State) : (raise f info s).session = (!f.fatal && s.session) := by
  cases h : f.fatal <;> simp [raise, h]
@[simp] theorem raise_done (f : Failure) (info : W16) (s : State) : (raise f info s).done = false := by
  unfold raise; split <;> rfl
@[simp] theorem raise_err (f : Failure) (info : W16) (s : State) : (raise f info s).err = true := by
  unfold raise; split <;> rfl
@[simp] theorem raise_tmoLong (f : Failure) (info : W16) (s : State) : (raise f info s).tmoLong = s.tmoLong := by
  unfold raise; split <;> rfl
@[simp] theorem raise_errReg (f : Failure) (info : W16) (s : State) : (raise f info s).errReg = f.code := by
  unfold raise; split <;> rfl
@[simp] theorem raise_errInfo (f : Failure) (info : W16) (s : State) : (raise f info s).errInfo = info := by
  unfold raise; split <;> rfl
@[simp] theorem raise_baudInit (f : Failure) (info : W16) (s : State) : (raise f info s).baudInit = s.baudInit := by
  unfold raise; split <;> rfl
@[simp] theorem raise_baudTgt (f : Failure) (info : W16) (s : State) : (raise f info s).baudTgt = s.baudTgt := by
  unfold raise; split <;> rfl
@[simp] theorem raise_wait (f : Failure) (info : W16) (s : State) : (raise f info s).wait = s.wait := by
  unfold raise; split <;> rfl
@[simp] theorem raise_addr (f : Failure) (info : W16) (s : State) : (raise f info s).addr = s.addr := by
  unfold raise; split <;> rfl
@[simp] theorem raise_txlen (f : Failure) (info : W16) (s : State) : (raise f info s).txlen = s.txlen := by
  unfold raise; split <;> rfl
@[simp] theorem raise_rxlen (f : Failure) (info : W16) (s : State) : (raise f info s).rxlen = s.rxlen := by
  unfold raise; split <;> rfl
@[simp] theorem raise_baudCur (f : Failure) (info : W16) (s : State) : (raise f info s).baudCur = s.baudCur := by
  unfold raise; split <;> rfl
@[simp] theorem raise_fosc (f : Failure) (info : W16) (s : State) : (raise f info s).fosc = s.fosc := by
  unfold raise; split <;> rfl
@[simp] theorem raise_chipId (f : Failure) (info : W16) (s : State) : (raise f info s).chipId = s.chipId := by
  unfold raise; split <;> rfl
@[simp] theorem raise_chipVer (f : Failure) (info : W16) (s : State) : (raise f info s).chipVer = s.chipVer := by
  unfold raise; split <;> rfl
@[simp] theorem raise_flashSz (f : Failure) (info : W16) (s : State) : (raise f info s).flashSz = s.flashSz := by
  unfold raise; split <;> rfl
@[simp] theorem raise_count (f : Failure) (info : W16) (s : State) : (raise f info s).count = s.count := by
  unfold raise; split <;> rfl
@[simp] theorem raise_iter (f : Failure) (info : W16) (s : State) : (raise f info s).iter = s.iter := by
  unfold raise; split <;> rfl
@[simp] theorem raise_chipName (f : Failure) (info : W16) (s : State) : (raise f info s).chipName = s.chipName := by
  unfold raise; split <;> rfl
@[simp] theorem raise_op (f : Failure) (info : W16) (s : State) : (raise f info s).op = .nothing := by
  unfold raise; split <;> rfl
@[simp] theorem raise_phase (f : Failure) (info : W16) (s : State) : (raise f info s).phase = .idle := by
  unfold raise; split <;> rfl
@[simp] theorem raise_txi (f : Failure) (info : W16) (s : State) : (raise f info s).txi = s.txi := by
  unfold raise; split <;> rfl
@[simp] theorem raise_rxs (f : Failure) (info : W16) (s : State) : (raise f info s).rxs = s.rxs := by
  unfold raise; split <;> rfl
@[simp] theorem raise_rxcnt (f : Failure) (info : W16) (s : State) : (raise f info s).rxcnt = s.rxcnt := by
  unfold raise; split <;> rfl
@[simp] theorem raise_txacc (f : Failure) (info : W16) (s : State) : (raise f info s).txacc = s.txacc := by
  unfold raise; split <;> rfl
@[simp] theorem raise_rxacc (f : Failure) (info : W16) (s : State) : (raise f info s).rxacc = s.rxacc := by
  unfold raise; split <;> rfl
@[simp] theorem raise_rxhdr0 (f : Failure) (info : W16) (s : State) : (raise f info s).rxhdr0 = s.rxhdr0 := by
  unfold raise; split <;> rfl
@[simp] theorem raise_rxhdr1 (f : Failure) (info : W16) (s : State) : (raise f info s).rxhdr1 = s.rxhdr1 := by
  unfold raise; split <;> rfl
@[simp] theorem raise_rxsize (f : Failure) (info : W16) (s : State) : (raise f info s).rxsize = s.rxsize := by
  unfold raise; split <;> rfl
@[simp] theorem raise_rxchk (f : Failure) (info : W16) (s : State) : (raise f info s).rxchk = s.rxchk := by
  unfold raise; split <;> rfl
@[simp] theorem raise_rxsuf (f : Failure) (info : W16) (s : State) : (raise f info s).rxsuf = s.rxsuf := by
  unfold raise; split <;> rfl
@[simp] theorem raise_staged (f : Failure) (info : W16) (s : State) : (raise f info s).staged = s.staged := by
  unfold raise; split <;> rfl
@[simp] theorem raise_expect (f : Failure) (info : W16) (s : State) : (raise f info s).expect = s.expect := by
  unfold raise; split <;> rfl
@[simp] theorem raise_txbuf (f : Failure) (info : W16) (s : State) : (raise f info s).txbuf = s.txbuf := by
  unfold raise; split <;> rfl
@[simp] theorem raise_rxbuf (f : Failure) (info : W16) (s : State) : (raise f info s).rxbuf = s.rxbuf := by
  unfold raise; split <;> rfl
@[simp] theorem raise_rxq (f : Failure) (info : W16) (s : State) : (raise f info s).rxq = if f.fatal && s.opened then [] else s.rxq := by
  unfold raise; cases f.fatal <;> rfl
@[simp] theorem raise_counted (f : Failure) (info : W16) (s : State) : (raise f info s).counted = s.counted := by
  unfold raise; split <;> rfl
@[simp] theorem raise_out (f : Failure) (info : W16) (s : State) : (raise f info s).out = if f.fatal && s.opened then s.out ++ [.close] else s.out := by
  unfold raise; cases f.fatal <;> rfl
@[simp] theorem raise_inbox (f : Failure) (info : W16) (s : State) : (raise f info s).inbox = s.inbox := by
  unfold raise; split <;> rfl
@[simp] theorem raise_fresh (f : Failure) (info : W16) (s : State) : (raise f info s).fresh = s.fresh := by
  unfold raise; split <;> rfl

/-! ### `clearErr` -/

@[simp] theorem clearErr_busy (s : State) : (clearErr s).busy = s.busy := rfl
@[simp] theorem clearErr_opened (s : State) : (clearErr s).opened = s.opened := rfl
@[simp] theorem clearErr_session (s : State) : (clearErr s).session = s.session := rfl
@[simp] theorem clearErr_done (s : State) : (clearErr s).done = false := rfl
@[simp] theorem clearErr_err (s : State) : (clearErr s).err = false := rfl
@[simp] theorem clearErr_tmoLong (s : State) : (clearErr s).tmoLong = s.tmoLong := rfl
@[simp] theorem clearErr_errReg (s : State) : (clearErr s).errReg = 0 := rfl
@[simp] theorem clearErr_errInfo (s : State) : (clearErr s).errInfo = 0 := rfl
@[simp] theorem clearErr_baudInit (s : State) : (clearErr s).baudInit = s.baudInit := rfl
@[simp] theorem clearErr_baudTgt (s : State) : (clearErr s).baudTgt = s.baudTgt := rfl
@[simp] theorem clearErr_wait (s : State) : (clearErr s).wait = s.wait := rfl
@[simp] theorem clearErr_addr (s : State) : (clearErr s).addr = s.addr := rfl
@[simp] theorem clearErr_txlen (s : State) : (clearErr s).txlen = s.txlen := rfl
@[simp] theorem clearErr_rxlen (s : State) : (clearErr s).rxlen = s.rxlen := rfl
@[simp] theorem clearErr_baudCur (s : State) : (clearErr s).baudCur = s.baudCur := rfl
@[simp] theorem clearErr_fosc (s : State) : (clearErr s).fosc = s.fosc := rfl
@[simp] theorem clearErr_chipId (s : State) : (clearErr s).chipId = s.chipId := rfl
@[simp] theorem clearErr_chipVer (s : State) : (clearErr s).chipVer = s.chipVer := rfl
@[simp] theorem clearErr_flashSz (s : State) : (clearErr s).flashSz = s.flashSz := rfl
@[simp] theorem clearErr_count (s : State) : (clearErr s).count = s.count := rfl
@[simp] theorem clearErr_iter (s : State) : (clearErr s).iter = s.iter := rfl
@[simp] theorem clearErr_chipName (s : State) : (clearErr s).chipName = s.chipName := rfl
@[simp] theorem clearErr_op (s : State) : (clearErr s).op = s.op := rfl
@[simp] theorem clearErr_phase (s : State) : (clearErr s).phase = s.phase := rfl
@[simp] theorem clearErr_txi (s : State) : (clearErr s).txi = s.txi := rfl
@[simp] theorem clearErr_rxs (s : State) : (clearErr s).rxs = s.rxs := rfl
@[simp] theorem clearErr_rxcnt (s : State) : (clearErr s).rxcnt = s.rxcnt := rfl
@[simp] theorem clearErr_txacc (s : State) : (clearErr s).txacc = s.txacc := rfl
@[simp] theorem clearErr_rxacc (s : State) : (clearErr s).rxacc = s.rxacc := rfl
@[simp] theorem clearErr_rxhdr0 (s : State) : (clearErr s).rxhdr0 = s.rxhdr0 := rfl
@[simp] theorem clearErr_rxhdr1 (s : State) : (clearErr s).rxhdr1 = s.rxhdr1 := rfl
@[simp] theorem clearErr_rxsize (s : State) : (clearErr s).rxsize = s.rxsize := rfl
@[simp] theorem clearErr_rxchk (s : State) : (clearErr s).rxchk = s.rxchk := rfl
@[simp] theorem clearErr_rxsuf (s : State) : (clearErr s).rxsuf = s.rxsuf := rfl
@[simp] theorem clearErr_staged (s : State) : (clearErr s).staged = s.staged := rfl
@[simp] theorem clearErr_expect (s : State) : (clearErr s).expect = s.expect := rfl
@[simp] theorem clearErr_txbuf (s : State) : (clearErr s).txbuf = s.txbuf := rfl
@[simp] theorem clearErr_rxbuf (s : State) : (clearErr s).rxbuf = s.rxbuf := rfl
@[simp] theorem clearErr_rxq (s : State) : (clearErr s).rxq = s.rxq := rfl
@[simp] theorem clearErr_counted (s : State) : (clearErr s).counted = s.counted := rfl
@[simp] theorem clearErr_out (s : State) : (clearErr s).out = s.out := rfl
@[simp] theorem clearErr_inbox (s : State) : (clearErr s).inbox = s.inbox := rfl
@[simp] theorem clearErr_fresh (s : State) : (clearErr s).fresh = s.fresh := rfl

/-! ### `complete` -/

@[simp] theorem complete_busy (s : State) : (complete s).busy = false := rfl
@[simp] theorem complete_opened (s : State) : (complete s).opened = s.opened := rfl
@[simp] theorem complete_session (s : State) : (complete s).session = s.session := rfl
@[simp] theorem complete_done (s : State) : (complete s).done = true := rfl
@[simp] theorem complete_err (s : State) : (complete s).err = s.err := rfl
@[simp] theorem complete_tmoLong (s : State) : (complete s).tmoLong = s.tmoLong := rfl
@[simp] theorem complete_errReg (s : State) : (complete s).errReg = s.errReg := rfl
@[simp] theorem complete_errInfo (s : State) : (complete s).errInfo = s.errInfo := rfl
@[simp] theorem complete_baudInit (s : State) : (complete s).baudInit = s.baudInit := rfl
@[simp] theorem complete_baudTgt (s : State) : (complete s).baudTgt = s.baudTgt := rfl
@[simp] theorem complete_wait (s : State) : (complete s).wait = s.wait := rfl
@[simp] theorem complete_addr (s : State) : (complete s).addr = s.addr := rfl
@[simp] theorem complete_txlen (s : State) : (complete s).txlen = s.txlen := rfl
@[simp] theorem complete_rxlen (s : State) : (complete s).rxlen = s.rxlen := rfl
@[simp] theorem complete_baudCur (s : State) : (complete s).baudCur = s.baudCur := rfl
@[simp] theorem complete_fosc (s : State) : (complete s).fosc = s.fosc := rfl
@[simp] theorem complete_chipId (s : State) : (complete s).chipId = s.chipId := rfl
@[simp] theorem complete_chipVer (s : State) : (complete s).chipVer = s.chipVer := rfl
@[simp] theorem complete_flashSz (s : State) : (complete s).flashSz = s.flashSz := rfl
@[simp] theorem complete_count (s : State) : (complete s).count = s.count := rfl
@[simp] theorem complete_iter (s : State) : (complete s).iter = s.iter := rfl
@[simp] theorem complete_chipName (s : State) : (complete s).chipName = s.chipName := rfl
@[simp] theorem complete_op (s : State) : (complete s).op = .nothing := rfl
@[simp] theorem complete_phase (s : State) : (complete s).phase = .idle := rfl
@[simp] theorem complete_txi (s : State) : (complete s).txi = s.txi := rfl
@[simp] theorem complete_rxs (s : State) : (complete s).rxs = s.rxs := rfl
@[simp] theorem complete_rxcnt (s : State) : (complete s).rxcnt = s.rxcnt := rfl
@[simp] theorem complete_txacc (s : State) : (complete s).txacc = s.txacc := rfl
@[simp] theorem complete_rxacc (s : State) : (complete s).rxacc = s.rxacc := rfl
@[simp] theorem complete_rxhdr0 (s : State) : (complete s).rxhdr0 = s.rxhdr0 := rfl
@[simp] theorem complete_rxhdr1 (s : State) : (complete s).rxhdr1 = s.rxhdr1 := rfl
@[simp] theorem complete_rxsize (s : State) : (complete s).rxsize = s.rxsize := rfl
@[simp] theorem complete_rxchk (s : State) : (complete s).rxchk = s.rxchk := rfl
@[simp] theorem complete_rxsuf (s : State) : (complete s).rxsuf = s.rxsuf := rfl
@[simp] theorem complete_staged (s : State) : (complete s).staged = s.staged := rfl
@[simp] theorem complete_expect (s : State) : (complete s).expect = s.expect := rfl
@[simp] theorem complete_txbuf (s : State) : (complete s).txbuf = s.txbuf := rfl
@[simp] theorem complete_rxbuf (s : State) : (complete s).rxbuf = s.rxbuf := rfl
@[simp] theorem complete_rxq (s : State) : (complete s).rxq = s.rxq := rfl
@[simp] theorem complete_counted (s : State) : (complete s).counted = s.counted := rfl
@[simp] theorem complete_out (s : State) : (complete s).out = s.out := rfl
@[simp] theorem complete_inbox (s : State) : (complete s).inbox = s.inbox := rfl
@[simp] theorem complete_fresh (s : State) : (complete s).fresh = s.fresh := rfl

/-! ### `abort` -/

@[simp] theorem abort_busy (s : State) : (abort s).busy = false := rfl
@[simp] theorem abort_opened (s : State) : (abort s).opened = false := rfl
@[simp] theorem abort_session (s : State) : (abort s).session = false := rfl
@[simp] theorem abort_done (s : State) : (abort s).done = true := rfl
@[simp] theorem abort_err (s : State) : (abort s).err = s.err := rfl
@[simp] theorem abort_tmoLong (s : State) : (abort s).tmoLong = s.tmoLong := rfl
@[simp] theorem abort_errReg (s : State) : (abort s).errReg = s.errReg := rfl
@[simp] theorem abort_errInfo (s : State) : (abort s).errInfo = s.errInfo := rfl
@[simp] theorem abort_baudInit (s : State) : (abort s).baudInit = s.baudInit := rfl
@[simp] theorem abort_baudTgt (s : State) : (abort s).baudTgt = s.baudTgt := rfl
@[simp] theorem abort_wait (s : State) : (abort s).wait = s.wait := rfl
@[simp] theorem abort_addr (s : State) : (abort s).addr = s.addr := rfl
@[simp] theorem abort_txlen (s : State) : (abort s).txlen = s.txlen := rfl
@[simp] theorem abort_rxlen (s : State) : (abort s).rxlen = s.rxlen := rfl
@[simp] theorem abort_baudCur (s : State) : (abort s).baudCur = s.baudCur := rfl
@[simp] theorem abort_fosc (s : State) : (abort s).fosc = s.fosc := rfl
@[simp] theorem abort_chipId (s : State) : (abort s).chipId = s.chipId := rfl
@[simp] theorem abort_chipVer (s : State) : (abort s).chipVer = s.chipVer := rfl
@[simp] theorem abort_flashSz (s : State) : (abort s).flashSz = s.flashSz := rfl
@[simp] theorem abort_count (s : State) : (abort s).count = s.count := rfl
@[simp] theorem abort_iter (s : State) : (abort s).iter = s.iter := rfl
@[simp] theorem abort_chipName (s : State) : (abort s).chipName = s.chipName := rfl
@[simp] theorem abort_op (s : State) : (abort s).op = .nothing := rfl
@[simp] theorem abort_phase (s : State) : (abort s).phase = .idle := rfl
@[simp] theorem abort_txi (s : State) : (abort s).txi = s.txi := rfl
@[simp] theorem abort_rxs (s : State) : (abort s).rxs = s.rxs := rfl
@[simp] theorem abort_rxcnt (s : State) : (abort s).rxcnt = s.rxcnt := rfl
@[simp] theorem abort_txacc (s : State) : (abort s).txacc = s.txacc := rfl
@[simp] theorem abort_rxacc (s : State) : (abort s).rxacc = s.rxacc := rfl
@[simp] theorem abort_rxhdr0 (s : State) : (abort s).rxhdr0 = s.rxhdr0 := rfl
@[simp] theorem abort_rxhdr1 (s : State) : (abort s).rxhdr1 = s.rxhdr1 := rfl
@[simp] theorem abort_rxsize (s : State) : (abort s).rxsize = s.rxsize := rfl
@[simp] theorem abort_rxchk (s : State) : (abort s).rxchk = s.rxchk := rfl
@[simp] theorem abort_rxsuf (s : State) : (abort s).rxsuf = s.rxsuf := rfl
@[simp] theorem abort_staged (s : State) : (abort s).staged = s.staged := rfl
@[simp] theorem abort_expect (s : State) : (abort s).expect = s.expect := rfl
@[simp] theorem abort_txbuf (s : State) : (abort s).txbuf = s.txbuf := rfl
@[simp] theorem abort_rxbuf (s : State) : (abort s).rxbuf = s.rxbuf := rfl
@[simp] theorem abort_rxq (s : State) : (abort s).rxq = if portHeld s then [] else s.rxq := rfl
@[simp] theorem abort_counted (s : State) : (abort s).counted = s.counted := rfl
@[simp] theorem abort_out (s : State) : (abort s).out = if portHeld s then s.out ++ [.close] else s.out := rfl
@[simp] theorem abort_inbox (s : State) : (abort s).inbox = s.inbox := rfl
@[simp] theorem abort_fresh (s : State) : (abort s).fresh = if s.phase = .opening then s.fresh + 1 else s.fresh := rfl

/-! ### `startExchange` -/

@[simp] theorem startExchange_busy (o : Op) (p : List Byte) (s : State) : (startExchange o p s).busy = true := rfl
@[simp] theorem startExchange_opened (o : Op) (p : List Byte) (s : State) : (startExchange o p s).opened = s.opened := rfl
@[simp] theorem startExchange_session (o : Op) (p : List Byte) (s : State) : (startExchange o p s).session = s.session := rfl
@[simp] theorem startExchange_done (o : Op) (p : List Byte) (s : State) : (startExchange o p s).done = s.done := rfl
@[simp] theorem startExchange_err (o : Op) (p : List Byte) (s : State) : (startExchange o p s).err = s.err := rfl
@[simp] theorem startExchange_tmoLong (o : Op) (p : List Byte) (s : State) : (startExchange o p s).tmoLong = s.tmoLong := rfl
@[simp] theorem startExchange_errReg (o : Op) (p : List Byte) (s : State) : (startExchange o p s).errReg = s.errReg := rfl
@[simp] theorem startExchange_errInfo (o : Op) (p : List Byte) (s : State) : (startExchange o p s).errInfo = s.errInfo := rfl
@[simp] theorem startExchange_baudInit (o : Op) (p : List Byte) (s : State) : (startExchange o p s).baudInit = s.baudInit := rfl
@[simp] theorem startExchange_baudTgt (o : Op) (p : List Byte) (s : State) : (startExchange o p s).baudTgt = s.baudTgt := rfl
@[simp] theorem startExchange_wait (o : Op) (p : List Byte) (s : State) : (startExchange o p s).wait = s.wait := rfl
@[simp] theorem startExchange_addr (o : Op) (p : List Byte) (s : State) : (startExchange o p s).addr = s.addr := rfl
@[simp] theorem startExchange_txlen (o : Op) (p : List Byte) (s : State) : (startExchange o p s).txlen = s.txlen := rfl
@[simp] theorem startExchange_rxlen (o : Op) (p : List Byte) (s : State) : (startExchange o p s).rxlen = s.rxlen := rfl
@[simp] theorem startExchange_baudCur (o : Op) (p : List Byte) (s : State) : (startExchange o p s).baudCur = s.baudCur := rfl
@[simp] theorem startExchange_fosc (o : Op) (p : List Byte) (s : State) : (startExchange o p s).fosc = s.fosc := rfl
@[simp] theorem startExchange_chipId (o : Op) (p : List Byte) (s : State) : (startExchange o p s).chipId = s.chipId := rfl
@[simp] theorem startExchange_chipVer (o : Op) (p : List Byte) (s : State) : (startExchange o p s).chipVer = s.chipVer := rfl
@[simp] theorem startExchange_flashSz (o : Op) (p : List Byte) (s : State) : (startExchange o p s).flashSz = s.flashSz := rfl
@[simp] theorem startExchange_count (o : Op) (p : List Byte) (s : State) : (startExchange o p s).count = s.count := rfl
@[simp] theorem startExchange_iter (o : Op) (p : List Byte) (s : State) : (startExchange o p s).iter = s.iter := rfl
@[simp] theorem startExchange_chipName (o : Op) (p : List Byte) (s : State) : (startExchange o p s).chipName = s.chipName := rfl
@[simp] theorem startExchange_op (o : Op) (p : List Byte) (s : State) : (startExchange o p s).op = o := rfl
@[simp] theorem startExchange_phase (o : Op) (p : List Byte) (s : State) : (startExchange o p s).phase = .tx := rfl
@[simp] theorem startExchange_txi (o : Op) (p : List Byte) (s : State) : (startExchange o p s).txi = 0 := rfl
@[simp] theorem startExchange_rxs (o : Op) (p : List Byte) (s : State) : (startExchange o p s).rxs = s.rxs := rfl
@[simp] theorem startExchange_rxcnt (o : Op) (p : List Byte) (s : State) : (startExchange o p s).rxcnt = s.rxcnt := rfl
@[simp] theorem startExchange_txacc (o : Op) (p : List Byte) (s : State) : (startExchange o p s).txacc = 0 := rfl
@[simp] theorem startExchange_rxacc (o : Op) (p : List Byte) (s : State) : (startExchange o p s).rxacc = s.rxacc := rfl
@[simp] theorem startExchange_rxhdr0 (o : Op) (p : List Byte) (s : State) : (startExchange o p s).rxhdr0 = s.rxhdr0 := rfl
@[simp] theorem startExchange_rxhdr1 (o : Op) (p : List Byte) (s : State) : (startExchange o p s).rxhdr1 = s.rxhdr1 := rfl
@[simp] theorem startExchange_rxsize (o : Op) (p : List Byte) (s : State) : (startExchange o p s).rxsize = s.rxsize := rfl
@[simp] theorem startExchange_rxchk (o : Op) (p : List Byte) (s : State) : (startExchange o p s).rxchk = s.rxchk := rfl
@[simp] theorem startExchange_rxsuf (o : Op) (p : List Byte) (s : State) : (startExchange o p s).rxsuf = s.rxsuf := rfl
@[simp] theorem startExchange_staged (o : Op) (p : List Byte) (s : State) : (startExchange o p s).staged = p := rfl
@[simp] theorem startExchange_expect (o : Op) (p : List Byte) (s : State) : (startExchange o p s).expect = expectOf o := rfl
@[simp] theorem startExchange_txbuf (o : Op) (p : List Byte) (s : State) : (startExchange o p s).txbuf = s.txbuf := rfl
@[simp] theorem startExchange_rxbuf (o : Op) (p : List Byte) (s : State) : (startExchange o p s).rxbuf = s.rxbuf := rfl
@[simp] theorem startExchange_rxq (o : Op) (p : List Byte) (s : State) : (startExchange o p s).rxq = s.rxq := rfl
@[simp] theorem startExchange_counted (o : Op) (p : List Byte) (s : State) : (startExchange o p s).counted = s.counted := rfl
@[simp] theorem startExchange_out (o : Op) (p : List Byte) (s : State) : (startExchange o p s).out = s.out := rfl
@[simp] theorem startExchange_inbox (o : Op) (p : List Byte) (s : State) : (startExchange o p s).inbox = s.inbox := rfl
@[simp] theorem startExchange_fresh (o : Op) (p : List Byte) (s : State) : (startExchange o p s).fresh = s.fresh := rfl

/-! ### `startDecode` -/

@[simp] theorem startDecode_busy (long : Bool) (s : State) : (startDecode long s).busy = s.busy := rfl
@[simp] theorem startDecode_opened (long : Bool) (s : State) : (startDecode long s).opened = s.opened := rfl
@[simp] theorem startDecode_session (long : Bool) (s : State) : (startDecode long s).session = s.session := rfl
@[simp] theorem startDecode_done (long : Bool) (s : State) : (startDecode long s).done = s.done := rfl
@[simp] theorem startDecode_err (long : Bool) (s : State) : (startDecode long s).err = s.err := rfl
@[simp] theorem startDecode_tmoLong (long : Bool) (s : State) : (startDecode long s).tmoLong = long := rfl
@[simp] theorem startDecode_errReg (long : Bool) (s : State) : (startDecode long s).errReg = s.errReg := rfl
@[simp] theorem startDecode_errInfo (long : Bool) (s : State) : (startDecode long s).errInfo = s.errInfo := rfl
@[simp] theorem startDecode_baudInit (long : Bool) (s : State) : (startDecode long s).baudInit = s.baudInit := rfl
@[simp] theorem startDecode_baudTgt (long : Bool) (s : State) : (startDecode long s).baudTgt = s.baudTgt := rfl
@[simp] theorem startDecode_wait (long : Bool) (s : State) : (startDecode long s).wait = s.wait := rfl
@[simp] theorem startDecode_addr (long : Bool) (s : State) : (startDecode long s).addr = s.addr := rfl
@[simp] theorem startDecode_txlen (long : Bool) (s : State) : (startDecode long s).txlen = s.txlen := rfl
@[simp] theorem startDecode_rxlen (long : Bool) (s : State) : (startDecode long s).rxlen = 0 := rfl
@[simp] theorem startDecode_baudCur (long : Bool) (s : State) : (startDecode long s).baudCur = s.baudCur := rfl
@[simp] theorem startDecode_fosc (long : Bool) (s : State) : (startDecode long s).fosc = s.fosc := rfl
@[simp] theorem startDecode_chipId (long : Bool) (s : State) : (startDecode long s).chipId = s.chipId := rfl
@[simp] theorem startDecode_chipVer (long : Bool) (s : State) : (startDecode long s).chipVer = s.chipVer := rfl
@[simp] theorem startDecode_flashSz (long : Bool) (s : State) : (startDecode long s).flashSz = s.flashSz := rfl
@[simp] theorem startDecode_count (long : Bool) (s : State) : (startDecode long s).count = s.count := rfl
@[simp] theorem startDecode_iter (long : Bool) (s : State) : (startDecode long s).iter = s.iter := rfl
@[simp] theorem startDecode_chipName (long : Bool) (s : State) : (startDecode long s).chipName = s.chipName := rfl
@[simp] theorem startDecode_op (long : Bool) (s : State) : (startDecode long s).op = s.op := rfl
@[simp] theorem startDecode_phase (long : Bool) (s : State) : (startDecode long s).phase = .rx := rfl
@[simp] theorem startDecode_txi (long : Bool) (s : State) : (startDecode long s).txi = s.txi := rfl
@[simp] theorem startDecode_rxs (long : Bool) (s : State) : (startDecode long s).rxs = .sPrefix := rfl
@[simp] theorem startDecode_rxcnt (long : Bool) (s : State) : (startDecode long s).rxcnt = 0 := rfl
@[simp] theorem startDecode_txacc (long : Bool) (s : State) : (startDecode long s).txacc = s.txacc := rfl
@[simp] theorem startDecode_rxacc (long : Bool) (s : State) : (startDecode long s).rxacc = rxCode.setWidth 16 := rfl
@[simp] theorem startDecode_rxhdr0 (long : Bool) (s : State) : (startDecode long s).rxhdr0 = s.rxhdr0 := rfl
@[simp] theorem startDecode_rxhdr1 (long : Bool) (s : State) : (startDecode long s).rxhdr1 = s.rxhdr1 := rfl
@[simp] theorem startDecode_rxsize (long : Bool) (s : State) : (startDecode long s).rxsize = 0 := rfl
@[simp] theorem startDecode_rxchk (long : Bool) (s : State) : (startDecode long s).rxchk = 0 := rfl
@[simp] theorem startDecode_rxsuf (long : Bool) (s : State) : (startDecode long s).rxsuf = s.rxsuf := rfl
@[simp] theorem startDecode_staged (long : Bool) (s : State) : (startDecode long s).staged = s.staged := rfl
@[simp] theorem startDecode_expect (long : Bool) (s : State) : (startDecode long s).expect = s.expect := rfl
@[simp] theorem startDecode_txbuf (long : Bool) (s : State) : (startDecode long s).txbuf = s.txbuf := rfl
@[simp] theorem startDecode_rxbuf (long : Bool) (s : State) : (startDecode long s).rxbuf = s.rxbuf := rfl
@[simp] theorem startDecode_rxq (long : Bool) (s : State) : (startDecode long s).rxq = s.rxq := rfl
@[simp] theorem startDecode_counted (long : Bool) (s : State) : (startDecode long s).counted = s.counted := rfl
@[simp] theorem startDecode_out (long : Bool) (s : State) : (startDecode long s).out = s.out ++ [.setTimeout long] := rfl
@[simp] theorem startDecode_inbox (long : Bool) (s : State) : (startDecode long s).inbox = s.inbox := rfl
@[simp] theorem startDecode_fresh (long : Bool) (s : State) : (startDecode long s).fresh = s.fresh := rfl

end Sys2Proof.Machine
end

