-- ==== Sys2Proof/Laws/Receive.lean ====
section
/-!
SUPPORT. What the receiver can do: when `drain` stops, one byte at a time, an induction over it, and what the end of an exchange
answers.
-/

namespace Sys2Proof.Machine

/-- What an arrival can do: the bytes are lost where no port is held, else they queue and pending reads take them. -/
theorem arrive_cases (bytes : List Byte) (s : State) :
    (portHeld s = false ∧ arrive bytes s = .next s)
    ∨ (portHeld s = true
      ∧ arrive bytes s = settle (drain (s.rxq.length + bytes.length) { s with rxq := s.rxq ++ bytes })) := by
  unfold arrive
  cases h : portHeld s
  · exact .inl ⟨rfl, by simp⟩
  · exact .inr ⟨rfl, by simp⟩

theorem reading_iff (s : State) : reading s = true ↔ s.busy = true ∧ s.phase = .rx := by simp [reading]

/-- After a failure no read is pending. -/
theorem reading_raise (f : Failure) (info : W16) (s : State) : reading (raise f info s) = false := by cases f <;> rfl

/-- After NoFrame no read is pending. -/
theorem reading_noFrame (s : State) : reading (noFrame s) = false := by
  unfold noFrame
  split
  · simp [reading]
  · exact reading_raise _ _ _

theorem drain_nil (n : Nat) (s : State) (h : s.rxq = []) : drain n s = s := by
  cases n with
  | zero => rfl
  | succ n => unfold drain; rw [h]

theorem drain_stop (n : Nat) (s : State) (h : reading s = false) : drain n s = s := by
  cases n with
  | zero => rfl
  | succ n =>
      unfold drain
      split
      · rfl
      · simp [h]

theorem drain_cons (n : Nat) (s : State) (b : Byte) (r : List Byte) (hq : s.rxq = b :: r) (h : reading s = true) :
    drain (n + 1) s = drain n (takeByte b { s with rxq := r }) := by
  conv => lhs; unfold drain
  rw [hq]
  simp [h]

/-- What one byte taken at a pending read keeps, `drain` keeps. -/
theorem drain_induction (P : State → Prop)
    (hstep : ∀ s b r, P s → s.rxq = b :: r → reading s = true → P (takeByte b { s with rxq := r }))
    (n : Nat) (s : State) (h : P s) : P (drain n s) := by
  induction n generalizing s with
  | zero => exact h
  | succ n ih =>
      cases hq : s.rxq with
      | nil => rwa [drain_nil _ _ hq]
      | cons b r =>
          cases hr : reading s with
          | false => rwa [drain_stop _ _ hr]
          | true =>
              rw [drain_cons n s b r hq hr]
              exact ih _ (hstep s b r h hq hr)

/-- What FINISH can answer. -/
theorem finish_cases (s : State) (o : Host.Outcome State Fault Refusal) (h : finish s = o) :
    (s.rxbuf.readRange 0 s.rxlen.toNat = none ∧ o = .fault .rxUnwritten)
    ∨ ∃ p, s.rxbuf.readRange 0 s.rxlen.toNat = some p ∧
        ((s.op = .identify ∧ o = .next (identified p s)) ∨ (s.op ≠ .identify ∧ s.expect = none ∧ o = .next (complete s))
        ∨ ∃ e, s.op ≠ .identify ∧ s.expect = some e ∧ o = .next (checkReply p e s)) := by
  unfold finish at h
  split at h
  · rename_i hp
    exact .inl ⟨hp, h.symm⟩
  · rename_i p hp
    refine .inr ⟨p, hp, ?_⟩
    split at h
    · rename_i ho
      exact .inl ⟨ho, h.symm⟩
    · rename_i ho
      split at h
      · rename_i he
        exact .inr (.inl ⟨ho, he, h.symm⟩)
      · rename_i e he
        exact .inr (.inr ⟨e, ho, he, h.symm⟩)

/-- The three ways IDENTIFY takes a frame. -/
theorem identified_cases (p : List Byte) (s : State) :
    identified p s = raise (.framing .shortReply) (BitVec.ofNat 16 p.length) s
    ∨ identified p s = raise .unsupportedDevice (identId p) s
    ∨ ∃ name size, identified p s = complete { s with
        fosc := identFosc p, chipId := identId p, chipVer := identVer p, flashSz := size, chipName := name
        session := true } := by
  unfold identified identifiedWith
  split
  · exact .inl rfl
  · split
    · exact .inr (.inl rfl)
    · exact .inr (.inr ⟨_, _, rfl⟩)

/-- The two ways a command takes a reply. -/
theorem checkReply_cases (p : List Byte) (e : Byte) (s : State) :
    checkReply p e s = complete s ∨ ∃ d info, checkReply p e s = raise (.rejected d) info s := by
  unfold checkReply
  split
  · exact .inr ⟨_, _, rfl⟩
  · split
    · exact .inl rfl
    · exact .inr ⟨_, _, rfl⟩

end Sys2Proof.Machine
end

