-- ==== Sys2Proof/Laws/Sequence.lean ====
section
/-!
SUPPORT. Everything a step can do: the outcomes of the sequencer, and of a step in any state.
-/

namespace Sys2Proof.Machine

/-- What the sequencer answers when it moves on its own. -/
inductive BlockOutcome (s : State) : Host.Outcome State Fault Refusal → Prop
  | same (h : s.busy = false ∨ s.phase = .idle) : BlockOutcome s (.next s)
  | answered (hb : s.busy = true) (hp : s.phase = .opening) (ok : Bool) (n : Nat) :
      BlockOutcome s (.next (openAnswered ok { s with fresh := n }))
  | synch (hb : s.busy = true) (hp : s.phase = .probe) (hc : s.counted = true) :
      BlockOutcome s (.next (startDecode false { emit [.write synchByte] s with counted := false }))
  | iteration (hb : s.busy = true) (hp : s.phase = .probe) (hc : s.counted = false) :
      BlockOutcome s (.next (nextIteration s))
  | sendByte (hb : s.busy = true) (hp : s.phase = .tx) (hl : s.staged.length ≤ maxPayload) :
      BlockOutcome s (.next (sendByte s))
  | sendFrame (hb : s.busy = true) (hp : s.phase = .tx) (hl : s.staged.length ≤ maxPayload) :
      BlockOutcome s (.next (startDecode true
        { emit (((encodeFrame txCode s.staged).drop s.txi).map .write) s with
          txacc := chksum txCode s.staged, txi := 0 }))
  | tooLong (hb : s.busy = true) (hp : s.phase = .tx) (hl : ¬ s.staged.length ≤ maxPayload) :
      BlockOutcome s (.fault .payloadTooLong)
  | byte (hr : reading s = true) (b : Byte) (q : List Byte) (n : Nat) :
      BlockOutcome s (.next (takeByte b { s with rxq := q, fresh := n }))
  | timeout (hr : reading s = true) (n : Nat) : BlockOutcome s (.next (takeTimeout { s with fresh := n }))
  | finish (hb : s.busy = true) (hp : s.phase = .finish) (o : Host.Outcome State Fault Refusal) (h : finish s = o) :
      BlockOutcome s o

theorem blockStep_outcome (s : State) : BlockOutcome s (blockStep s) := by
  unfold blockStep
  split
  · rename_i hb
    split
    · rename_i h; exact .same (.inr h)
    · rename_i h; exact .answered hb h _ _
    · rename_i h
      split
      · rename_i hc; unfold execSynch; rw [if_pos (by simp [hb, h, hc])]; exact .synch hb h hc
      · rename_i hc; exact .iteration hb h (by simpa using hc)
    · rename_i h
      split
      · rename_i hl; exact .sendByte hb h hl
      · rename_i hl; exact .tooLong hb h hl
    · rename_i h
      have hr : reading s = true := by simp [reading, hb, h]
      unfold answerRead
      split
      · exact .byte hr _ _ s.fresh
      · split
        · exact .byte hr _ s.rxq _
        · exact .timeout hr _
    · rename_i h; exact .finish hb h _ rfl
  · rename_i hb; exact .same (.inl (by simpa using hb))

/-- What a step answers, by what stands first in the inbox. -/
inductive StepOutcome (s : State) : Host.Outcome State Fault Refusal → Prop
  | alone (h : s.inbox = []) (o : Host.Outcome State Fault Refusal) (hb : BlockOutcome s o) : StepOutcome s o
  | tick (r : List Event) (h : s.inbox = .tick :: r) (o : Host.Outcome State Fault Refusal)
      (hb : BlockOutcome { s with inbox := r } o) : StepOutcome s o
  | cmd (v : W32) (r : List Event) (h : s.inbox = .writeReg .cmd v :: r) (o : Host.Outcome State Fault Refusal)
      (hc : CmdOutcome (v.setWidth 8) { s with inbox := r } o) : StepOutcome s o
  | register (k : HReg) (v : W32) (r : List Event) (hk : k ≠ .cmd) (h : s.inbox = .writeReg k v :: r) :
      StepOutcome s (.next (writeReg k v { s with inbox := r }))
  | load (k : Nat) (b : Byte) (r : List Event) (h : s.inbox = .load k b :: r) (o : Host.Outcome State Fault Refusal)
      (ho : loadByte k b { s with inbox := r } = o) : StepOutcome s o
  | receive (bytes : List Byte) (r : List Event) (h : s.inbox = .receive bytes :: r)
      (o : Host.Outcome State Fault Refusal) (ho : arrive bytes { s with inbox := r } = o) : StepOutcome s o
  | timeout (r : List Event) (h : s.inbox = .timeout :: r) (hr : reading s = true) :
      StepOutcome s (.next (takeTimeout { s with inbox := r }))
  | ignored (e : Event) (r : List Event) (h : s.inbox = e :: r) : StepOutcome s (.next { s with inbox := r })
  | answered (ok : Bool) (r : List Event) (h : s.inbox = .openAnswer ok :: r) (hb : s.busy = true)
      (hp : s.phase = .opening) : StepOutcome s (.next (openAnswered ok { s with inbox := r }))
  | reset (r : List Event) (h : s.inbox = .reset :: r) : StepOutcome s (.next (hwReset { s with inbox := r }))

theorem step_outcome (s : State) : StepOutcome s (step s) := by
  cases hi : s.inbox with
  | nil =>
    refine .alone hi _ ?_
    rw [step_alone s hi]
    split
    · rename_i h
      rcases sendFrame_cases s.staged s with ⟨a, _⟩ | ⟨_, a, _⟩ | ⟨_, _, a⟩
      · simp [sending, h.1, h.2.1] at a
      · exact absurd h.2.2 (by omega)
      · rw [a]; exact .sendFrame h.1 h.2.1 h.2.2
    · exact blockStep_outcome s
  | cons e r =>
    cases e with
    | writeReg k v =>
      by_cases hk : k = .cmd
      · subst hk; rw [step_cmd s v r hi]; exact .cmd v r hi _ (exec_cmd_outcome _ _)
      · have := StepOutcome.register k v r hk hi
        rw [step_event s _ r hi (by intro v h; cases h; exact hk rfl)]; exact this
    | load k b => rw [step_event s _ r hi (by simp)]; exact .load k b r hi _ rfl
    | receive bs => rw [step_event s _ r hi (by simp)]; exact .receive bs r hi _ rfl
    | timeout =>
      rw [step_event s _ r hi (by simp)]
      simp only [handleEvent]
      split
      · rename_i h; simp only [Bool.and_eq_true] at h; exact .timeout r hi h.1
      · exact .ignored _ r hi
    | openAnswer ok =>
      rw [step_event s _ r hi (by simp)]
      simp only [handleEvent]
      split
      · rename_i h; simp at h; exact .answered ok r hi h.1 h.2
      · exact .ignored _ r hi
    | reset => rw [step_event s _ r hi (by simp)]; exact .reset r hi
    | tick => rw [step_event s _ r hi (by simp)]; exact .tick r hi _ (blockStep_outcome _)


end Sys2Proof.Machine
end

