-- ==== Sys2Proof/Tests/Slice0.lean ====
section
/-!
SUPPORT. The package's own tests. Expected values are those of spec/95_test_vectors.md and of the worked examples of the rules
named; each test is one step on a small state.
-/

namespace Sys2Proof.Tests

open Sys2Proof.Machine

/-! ### WellFormed refuses an ill-formed term for each of its checks -/

theorem test_wf_write (d : List Byte) (h : d.length = 65525) : ¬ (Instr.write 0 d).WellFormed := by
  simp [Instr.WellFormed, Instr.wellFormed, maxPayload, h]
theorem test_wf_payload_long (p : List Byte) (h : p.length = 65530) :
    ¬ (Instr.xferFrame p).WellFormed ∧ ¬ (Instr.rIdent p).WellFormed ∧ ¬ (Instr.rAny p).WellFormed := by
  simp [Instr.WellFormed, Instr.wellFormed, maxPayload, h]
theorem test_wf_tail_long (q : List Byte) (h : q.length = 65529) :
    ¬ (Instr.rBaudSet q).WellFormed ∧ ¬ (Instr.rBaudCheck q).WellFormed ∧ ¬ (Instr.rErase q).WellFormed
      ∧ ¬ (Instr.rWrite q).WellFormed := by
  simp [Instr.WellFormed, Instr.wellFormed, maxPayload, h]
theorem test_wf_xfer_erase : ¬ (Instr.xferFrame [0x03, 0x00, 0x00, 0x5A, 0xA5]).WellFormed := by decide
theorem test_wf_xfer_write : ¬ (Instr.xferFrame [0x22, 0x01, 0x00, 0x5A, 0xA5, 0x02]).WellFormed := by decide
theorem test_wf_xfer_baudset : ¬ (Instr.xferFrame [0x01, 0x1B, 0x40, 0xFF, 0xCC, 0, 0, 0x97]).WellFormed := by decide
theorem test_wf_xfer : (Instr.xferFrame [0x46, 0xB9, 0x16]).WellFormed := by decide
theorem test_wf_ident_short : ¬ (Instr.rIdent (List.replicate 22 0)).WellFormed := by decide
theorem test_wf_reservedHi : ¬ (Instr.reservedHi 0x09).WellFormed ∧ (Instr.reservedHi 0x19).WellFormed := by decide

/-! ### Decoding of words written out from the encodings of file 30 and the frames of file 95 -/

theorem test_decode_synch : decode .toDevice [0x7F] = .ok (.synch, []) := by decide
theorem test_decode_baudSet :
    decode .toDevice [0x46, 0xB9, 0x6A, 0x00, 0x0E, 0x01, 0x1B, 0x40, 0xFF, 0xCC, 0x00, 0x00, 0x97, 0x03, 0x36, 0x16]
      = .ok (.baudSet 0x1B 0xFFCC, []) := by decide
theorem test_decode_baudCheckShort :
    decode .toDevice [0x46, 0xB9, 0x6A, 0x00, 0x07, 0x05, 0x00, 0x76, 0x16] = .ok (.baudCheckShort, []) := by decide
theorem test_decode_baudCheckExt :
    decode .toDevice [0x46, 0xB9, 0x6A, 0x00, 0x0B, 0x05, 0x00, 0x00, 0x5A, 0xA5, 0x01, 0x79, 0x16]
      = .ok (.baudCheckExt, []) := by decide
theorem test_decode_erase :
    decode .toDevice [0x46, 0xB9, 0x6A, 0x00, 0x0B, 0x03, 0x00, 0x00, 0x5A, 0xA5, 0x01, 0x77, 0x16]
      = .ok (.erase, []) := by decide
theorem test_decode_write :
    decode .toDevice [0x46, 0xB9, 0x6A, 0x00, 0x0F, 0x22, 0x01, 0x00, 0x5A, 0xA5, 0x02, 0x00, 0x80, 0xFE, 0x03, 0x1B, 0x16]
      = .ok (.write 0x0100 [0x02, 0x00, 0x80, 0xFE], []) := by decide
theorem test_decode_xferFrame :
    decode .toDevice [0x46, 0xB9, 0x6A, 0x00, 0x09, 0x46, 0xB9, 0x16, 0x01, 0x88, 0x16]
      = .ok (.xferFrame [0x46, 0xB9, 0x16], []) := by decide
theorem test_decode_xferFrame_empty :
    decode .toDevice [0x46, 0xB9, 0x6A, 0x00, 0x06, 0x00, 0x70, 0x16] = .ok (.xferFrame [], []) := by decide

/-- ID72 of file 95: the identification payload of R196. -/
def id72 : List Byte :=
  [0x50, 0x01, 0x6E, 0x36, 0x1B, 0, 0, 0, 0, 0, 0, 0, 0, 0, 0, 0, 0, 0x72, 0x54, 0x00, 0xF7, 0x52, 0x03]

theorem test_decode_rIdent :
    decode (.fromDevice .identify) ([0x46, 0xB9, 0x68, 0x00, 0x1D] ++ id72 ++ [0x03, 0xA7, 0x16])
      = .ok (.rIdent id72, []) := by decide
theorem test_decode_rBaudSet :
    decode (.fromDevice .setbaud) [0x46, 0xB9, 0x68, 0x00, 0x07, 0x01, 0x00, 0x70, 0x16] = .ok (.rBaudSet [], []) := by
  decide
theorem test_decode_rWrite :
    decode (.fromDevice .write) [0x46, 0xB9, 0x68, 0x00, 0x08, 0x02, 0x54, 0x00, 0xC6, 0x16]
      = .ok (.rWrite [0x54], []) := by decide
theorem test_decode_rErase :
    decode (.fromDevice .erase) [0x46, 0xB9, 0x68, 0x00, 0x07, 0x03, 0x00, 0x72, 0x16] = .ok (.rErase [], []) := by decide
theorem test_decode_rBaudCheck :
    decode (.fromDevice .checkbaud) [0x46, 0xB9, 0x68, 0x00, 0x07, 0x05, 0x00, 0x74, 0x16] = .ok (.rBaudCheck [], []) := by
  decide
theorem test_decode_rAny :
    decode (.fromDevice .xfer) [0x46, 0xB9, 0x68, 0x00, 0x09, 0xFF, 0xFF, 0xFF, 0x03, 0x6E, 0x16]
      = .ok (.rAny [0xFF, 0xFF, 0xFF], []) := by decide

/-- The CMD values of R120. -/
theorem test_decode_cmd :
    ([0x00, 0x01, 0x02, 0x03, 0x04, 0x05, 0x06, 0x07, 0x08, 0x09, 0x0A, 0x0B, 0x0C, 0x0D, 0x0E, 0x0F, 0x19, 0xF0].map decodeCmd)
      = [.nop, .openOp, .close, .identify, .setbaud, .checkbaud, .eraseOp, .writeOp, .xfer, .reserved9, .reservedA, .reservedB,
          .reservedC, .reservedD, .reservedE, .clrerr, .reservedHi 0x19, .reservedHi 0xF0] := by decide

/-- Words of the opcode table: the first byte leftmost as R129 writes a row, or in the lowest eight bits. -/
theorem test_table_words :
    decodeTableWord 8 0x7F = some .synch ∧ decodeTableWord 8 0x07 = some .writeOp
      ∧ decodeTableWord 8 0x46 = some (.reservedHi 0x46)
      ∧ decodeTableWord 72 0x46B96A000705007616 = some .baudCheckShort
      ∧ decodeTableWord 72 0x1676000507006AB946 = some .baudCheckShort
      ∧ decodeTableWord 24 0x46B96A = none ∧ decodeTableWord 24 0x6AB946 = none := by decide

/-! ### Rejections by name (R121), from the DECODE vectors V-D -/

theorem test_reject_code : decode (.fromDevice .erase) [0x46, 0xB9, 0x6A, 0x00, 0x07, 0x03, 0x00, 0x74, 0x16]
    = .error (.malformed (.header 0xB96A)) := by decide
theorem test_reject_size : decode (.fromDevice .erase) [0x46, 0xB9, 0x68, 0x00, 0x05, 0x00, 0x00]
    = .error (.malformed (.size 5)) := by decide
theorem test_reject_checksum : decode (.fromDevice .erase) [0x46, 0xB9, 0x68, 0x00, 0x07, 0x03, 0x00, 0x73, 0x17]
    = .error (.malformed (.checksum 0x0073)) := by decide
theorem test_reject_suffix : decode (.fromDevice .erase) [0x46, 0xB9, 0x68, 0x00, 0x07, 0x03, 0x00, 0x72, 0x17]
    = .error (.malformed (.suffix 0x17)) := by decide
theorem test_reject_trunc : decode (.fromDevice .erase) [0x46, 0xB9, 0x68, 0x00, 0x09, 0x03, 0x04]
    = .error (.malformed .trunc) := by decide
theorem test_reject_noise : decode (.fromDevice .erase) [0x00, 0x46] = .error .noFrame := by decide
/-- The echo of the command code 0x22 is not WRITE's reply (R237). -/
theorem test_reject_echo : decode (.fromDevice .write) [0x46, 0xB9, 0x68, 0x00, 0x07, 0x22, 0x00, 0x91, 0x16]
    = .error .notAwaited := by decide

/-! ### Checksums and the divider (V-C, V-B) -/

theorem test_checksum_wraps : chksum 0x68 (List.replicate 300 0xFF) = 0x2B6F := by decide +kernel
theorem test_checksum_size_carry :
    chksum 0x6A (List.replicate 249 0x00) = 0x0169 ∧ chksum 0x6A (List.replicate 250 0x00) = 0x006B := by decide +kernel
theorem test_divisor :
    divisorCount16 24000000 115200 = 0xFFCC ∧ divisorCount16 24000000 2400 = 0xF63C ∧ divisorCount16 262144 1 = 0
      ∧ divisorOk 262147 1 = true ∧ divisorOk 262148 1 = false ∧ divisorOk 3 1 = false ∧ divisorOk 24000000 91 = false
      ∧ divisorOk 24000000 0 = false := by decide

/-! ### One step on small states -/

/-- The state after reset with the registers of the examples and an empty input queue. -/
def base : State := { State.reset with baudInit := 2400, baudTgt := 115200, rxq := [] }

/-- As after OPEN. -/
def opened : State := { base with opened := true, done := true, baudCur := 2400 }

/-- As after CHECKBAUD of program P1: STATUS 0x2E, FLASHSZ 4096. -/
def inSession : State :=
  { opened with
    session := true, tmoLong := true, baudCur := 115200, fosc := 0x016E361B, chipId := 0xF752
    chipVer := 0x035472, flashSz := 4096 }

/-- The block at the first read of a reply to operation `o`. -/
def awaiting (o : Op) : State :=
  startDecode true { inSession with busy := true, done := false, op := o, expect := expectOf o }

/-- The block about to send the payload `p` of operation `o`. -/
def sendingState (o : Op) (p : List Byte) : State := startExchange o p { inSession with done := false }

/-- IDENTIFY polling, its iteration counted. -/
def polling : State := { opened with done := false, busy := true, op := .identify, phase := .probe, counted := true, iter := 3 }

/-- A field of the next state. -/
def nextOf {α : Type} (o : Host.Outcome State Fault Refusal) (f : State → α) : Option α :=
  match o with
  | .next t => some (f t)
  | _ => none

/-- Whether the step stops with this fault. -/
def faults (o : Host.Outcome State Fault Refusal) (r : Fault) : Bool :=
  match o with
  | .fault r' => r = r'
  | _ => false

theorem test_base_status : statusByte State.reset = 0x00 ∧ statusByte opened = 0x0A ∧ statusByte inSession = 0x2E := by decide

/-! V-O: command acceptance. -/
theorem test_nop : nextOf (exec .nop base) statusByte = some 0x08 := by decide
theorem test_identify_not_open :
    nextOf (exec .identify base) (fun t => (t.errReg, statusByte t)) = some (0x28, 0x10) := by decide
theorem test_reserved_hi : nextOf (exec (.reservedHi 0x19) base) (fun t => (t.errReg, t.errInfo)) = some (0x18, 0x0019) := by
  decide
theorem test_reserved_9 : nextOf (exec .reserved9 base) (fun t => (t.errReg, t.errInfo)) = some (0x18, 0x0009) := by decide
theorem test_close_closed : nextOf (exec .close base) statusByte = some 0x08 := by decide
theorem test_open_twice : nextOf (exec .openOp opened) (fun t => (t.errReg, statusByte t)) = some (0x38, 0x12) := by decide
theorem test_setbaud_no_session : nextOf (exec .setbaud opened) (fun t => t.errReg) = some 0x48 := by decide
theorem test_identify_session :
    nextOf (exec .identify inSession) (fun t => (t.errReg, statusByte t)) = some (0x58, 0x36) := by decide
theorem test_drop_busy : exec .eraseOp polling = .next polling := rfl
theorem test_abort : nextOf (exec .close polling) (fun t => (statusByte t, t.errReg, t.iter)) = some (0x08, 0, 3) := by decide
theorem test_clrerr :
    nextOf (exec .clrerr { base with err := true, errReg := 0x28 }) (fun t => (t.errReg, statusByte t)) = some (0, 0) := by
  decide
theorem test_xfer_too_long : nextOf (exec .xfer { opened with txlen := 65530 }) (fun t => t.errReg) = some 0x68 := by decide
theorem test_close_session : nextOf (exec .close inSession) statusByte = some 0x28 := by decide

/-! OPEN (R262). -/
theorem test_open : nextOf (exec .openOp base) (fun t => (t.phase, t.op)) = some (.opening, .openPort) := by decide
theorem test_open_answer :
    (fun t => (statusByte t, t.baudCur, lineBytes t.out)) (openAnswered true { base with busy := true, op := .openPort })
      = (0x0A, 2400, []) := by decide

/-! SEND (R144): the request frames of program P1. -/
theorem test_send_erase :
    nextOf (exec .erase (sendingState .erase erasePayload)) (fun t => lineBytes t.out)
      = some [0x46, 0xB9, 0x6A, 0x00, 0x0B, 0x03, 0x00, 0x00, 0x5A, 0xA5, 0x01, 0x77, 0x16] := by decide
theorem test_send_byte :
    (fun t => (lineBytes t.out, t.txi, t.txacc)) (sendByte { sendingState .erase erasePayload with txi := 11, txacc := 0x0177 })
      = ([0x77], 12, 0x0177) := by decide
theorem test_send_write :
    nextOf (exec (.write 0x0100 [0x02, 0x00, 0x80, 0xFE]) (sendingState .write (writePayload 0x0100 [0x02, 0x00, 0x80, 0xFE])))
        (fun t => lineBytes t.out)
      = some [0x46, 0xB9, 0x6A, 0x00, 0x0F, 0x22, 0x01, 0x00, 0x5A, 0xA5, 0x02, 0x00, 0x80, 0xFE, 0x03, 0x1B, 0x16] := by decide
theorem test_synch : nextOf (exec .synch polling) (fun t => (lineBytes t.out, t.phase, t.tmoLong)) = some ([0x7F], .rx, false) := by
  decide
theorem test_silent : exec .erase inSession = .next inSession := rfl

/-! Replies (V-H, V-B, V-F). -/
theorem test_identified :
    nextOf (exec (.rIdent id72) { polling with phase := .rx, rxacc := 0x68 })
        (fun t => (statusByte t, t.rxlen, t.fosc, t.chipId, t.chipVer, t.flashSz))
      = some (0x2E, 23, 0x016E361B, 0xF752, 0x035472, 4096) := by decide
theorem test_short_reply :
    nextOf (step { polling with phase := .rx, rxacc := 0x68, inbox := [.receive [0x46, 0xB9, 0x68, 0x00, 0x07, 0x03, 0x00, 0x72, 0x16]] })
        (fun t => (t.errReg, t.errInfo)) = some (0x53, 1) := by decide
theorem test_baud_set_reply : nextOf (exec (.rBaudSet []) (awaiting .setbaud)) (fun t => (statusByte t, t.rxlen)) = some (0x2E, 1) := by
  decide
theorem test_baud_set_mismatch :
    nextOf (exec (.rBaudCheck []) (awaiting .setbaud)) (fun t => (t.errReg, t.errInfo, statusByte t)) = some (0x16, 0x0005, 0x30) := by
  decide
theorem test_check_reply : nextOf (exec (.rBaudCheck []) (awaiting .checkbaud)) statusByte = some 0x2E := by decide
theorem test_erase_reply : nextOf (exec (.rErase []) (awaiting .erase)) (fun t => (statusByte t, readRxbuf 0 t)) = some (0x2E, some 0x03) := by
  decide
theorem test_write_reply_long : nextOf (exec (.rWrite [0x54]) (awaiting .write)) (fun t => (statusByte t, t.rxlen)) = some (0x2E, 2) := by
  decide
theorem test_write_echo :
    nextOf (exec (.rAny [0x22]) (awaiting .write)) (fun t => (t.errReg, t.errInfo)) = some (0x16, 0x0022) := by decide
theorem test_any_reply :
    nextOf (exec (.rAny [0xFF, 0xFF, 0xFF]) { awaiting .xfer with session := false }) (fun t => (statusByte t, t.rxlen))
      = some (0x2A, 3) := by decide
/-- Program P4: a damaged checksum. -/
theorem test_damaged :
    nextOf (step { awaiting .erase with inbox := [.receive [0x46, 0xB9, 0x68, 0x00, 0x07, 0x03, 0x00, 0x73, 0x16]] })
        (fun t => (t.errReg, t.errInfo, statusByte t, t.rxlen)) = some (0x04, 0x0073, 0x30, 1) := by decide
/-- V-E: one stale byte. -/
theorem test_stale : nextOf (step { awaiting .erase with rxq := [0x00] }) (fun t => (t.errReg, statusByte t)) = some (0x26, 0x30) := by
  decide

/-! WRITE (V-F, program P3) and the forms of BAUD_CHECK (S6). -/
theorem test_write_fits :
    nextOf (exec .writeOp { inSession with addr := 0x0FFD, txlen := 3, txbuf := [(0, 0xFF), (1, 0xFF), (2, 0xFF)] }) (fun t => t.staged)
      = some [0x22, 0x0F, 0xFD, 0x5A, 0xA5, 0xFF, 0xFF, 0xFF] := by decide
theorem test_write_capacity :
    nextOf (exec .writeOp { inSession with addr := 0x0FFD, txlen := 4 }) (fun t => (t.errReg, statusByte t, lineBytes t.out))
      = some (0x07, 0x30, []) := by decide
theorem test_write_unwritten : faults (exec .writeOp { inSession with txlen := 1 }) .txUnwritten = true := by decide
theorem test_check_form :
    checkPayload 0x035472 = [0x05, 0x00, 0x00, 0x5A, 0xA5] ∧ checkPayload 0x035471 = [0x05]
      ∧ checkPayload 0xFF = [0x05, 0x00, 0x00, 0x5A, 0xA5] ∧ checkPayload 0x00 = [0x05] := by decide
theorem test_version_string : versionString 0x035472 = "7.2.3+T" ∧ versionString 0x035471 = "7.1.3+T" := by decide

/-! The handshake loop (V-H: WAIT = 0) and host writes while busy (R50). -/
theorem test_wait_zero :
    nextOf (blockStep { polling with counted := false, iter := 0, wait := 0 }) (fun t => (t.errReg, statusByte t, t.iter))
      = some (0x02, 0x12, 0) := by decide
theorem test_write_busy : writeReg .addr 0x0100 polling = polling := rfl
theorem test_load : (loadStatement [0x02, 0x00]) = [.load 0 0x02, .load 1 0x00, .writeReg .txlen 2] := by decide

/-! The host's two questions on a table word. -/
theorem test_fetch_word_cmd : nextOf (step (State.reset.withFetchWord 8 0x01)) (fun t => t.phase) = some .opening := by decide
theorem test_fetch_word_frame :
    nextOf (step (State.reset.withFetchWord 72 0x46B96A000705007616)) (fun t => lineBytes t.out)
      = some [0x46, 0xB9, 0x6A, 0x00, 0x07, 0x05, 0x00, 0x76, 0x16] := by decide

/-! ### Witnesses: for each obligation with hypotheses a state and operands that meet them, at the bounds of its clauses -/

/-- A refusal is recorded. -/
def failed : State := { base with err := true, errReg := 0x28 }
/-- OPEN waits for the transport. -/
def openingState : State := { base with busy := true, op := .openPort, phase := .opening }
/-- IDENTIFY at the first read after a probe. -/
def identAwaiting : State := startDecode false { polling with counted := false }
/-- ERASE inside the SIZE field of its reply. -/
def midFrame : State := { awaiting .erase with rxs := .sSize, rxcnt := 1 }
/-- An erase reply as file 95 prints it. -/
def eraseReply : List Byte := [0x46, 0xB9, 0x68, 0x00, 0x07, 0x03, 0x00, 0x72, 0x16]

theorem atDecodeStart_awaiting (o : Op) : AtDecodeStart (awaiting o) := ⟨rfl, rfl, rfl, rfl, rfl, rfl, rfl, rfl, rfl⟩
theorem atDecodeStart_ident : AtDecodeStart identAwaiting := ⟨rfl, rfl, rfl, rfl, rfl, rfl, rfl, rfl, rfl⟩

theorem inv_base : Inv base := by constructor <;> first | decide | (intro h; cases h)
theorem inv_opened : Inv opened := by constructor <;> first | decide | (intro h; cases h)
theorem inv_inSession : Inv inSession := by constructor <;> first | decide | (intro h; cases h)
theorem inv_failed : Inv failed := by
  constructor <;> first | decide | (intro h; cases h; done) | exact fun _ => ⟨.refused .notOpen, rfl⟩
theorem inv_opening : Inv openingState := by constructor <;> first | decide | (intro h; cases h)
theorem inv_polling : Inv polling := by constructor <;> first | decide | (intro h; cases h)
theorem inv_awaiting_erase : Inv (awaiting .erase) := by
  constructor <;> first | decide | (intro h; cases h; done) | exact fun _ => rfl
theorem inv_identAwaiting : Inv identAwaiting := by
  constructor <;> first | decide | (intro h; cases h; done) | exact fun _ => rfl

/-! Encodings and frames. -/
theorem witness_write_longest (d : List Byte) (h : d.length = 65524) : (Instr.write 0x0000 d).WellFormed := by
  simp [Instr.WellFormed, Instr.wellFormed, maxPayload, h]
theorem witness_payload_longest (p : List Byte) (h : p.length = 65529) :
    (Instr.rAny p).WellFormed ∧ (Instr.rIdent p).WellFormed := by
  simp [Instr.WellFormed, Instr.wellFormed, maxPayload, h]
theorem witness_wellFormed :
    (Instr.reservedHi 0x10).WellFormed ∧ (Instr.rErase []).WellFormed ∧ (Instr.rIdent (List.replicate 23 0)).WellFormed := by
  decide
theorem witness_accepted :
    decode .toDevice [0x7F, 0x16] = .ok (.synch, [0x16]) ∧ decode .cmd [0xFF] = .ok (.reservedHi 0xFF, [])
      ∧ decode (.fromDevice .erase) eraseReply = .ok (.rErase [], []) := by decide
theorem witness_injective : encodeFrame 0x6A [0x05] = encodeFrame 0x6A [0x05] := rfl
theorem witness_frame_length (p : List Byte) (h : p.length = 65529) : p.length ≤ 65529 ∧ ([] : List Byte).length ≤ 65529 :=
  ⟨Nat.le_of_eq h, Nat.zero_le _⟩
theorem witness_direction : (0x6A : Byte) ≠ 0x68 := by decide
theorem witness_wrong_checksum : be16 0x00 0x73 ≠ chksum 0x68 [0x03] := by decide

/-! The byte machines. -/
theorem witness_send :
    sending erasePayload (sendingState .erase erasePayload) = true ∧ (sendingState .erase erasePayload).txi = 0
      ∧ (sendingState .erase erasePayload).txacc = 0 := by decide
/-- One stream for each result of the procedure of R150. -/
theorem witness_streams :
    parseFrame rxCode eraseReply = .frame [0x03] [] ∧ parseFrame rxCode [0x00] = .noFrame []
      ∧ parseFrame rxCode [0x46] = .bad .trunc [] [] ∧ parseFrame rxCode [0x46, 0xB9, 0x6A] = .bad (.header 0xB96A) [] []
      ∧ parseFrame rxCode [0x46, 0xB9, 0x68, 0x00, 0x05] = .bad (.size 5) [] []
      ∧ parseFrame rxCode [0x46, 0xB9, 0x68, 0x00, 0x07, 0x03, 0x00, 0x73, 0x16] = .bad (.checksum 0x73) [0x03] []
      ∧ parseFrame rxCode [0x46, 0xB9, 0x68, 0x00, 0x07, 0x03, 0x00, 0x72, 0x17] = .bad (.suffix 0x17) [0x03] [] := by
  decide

/-! CMD writes. -/
theorem witness_busy_cmd : channelOf .eraseOp = .cmd ∧ (Instr.eraseOp).WellFormed ∧ polling.busy = true := by decide
theorem witness_failed_cmd : failed.busy = false ∧ failed.err = true ∧ (Instr.close).WellFormed := by decide
theorem witness_abort : polling.phase ≠ .opening ∧ openingState.busy = true ∧ openingState.phase = .opening := by decide
theorem witness_ready : Ready base ∧ Ready opened ∧ Ready inSession := ⟨⟨rfl, rfl⟩, ⟨rfl, rfl⟩, ⟨rfl, rfl⟩⟩
theorem witness_stages :
    base.opened = false ∧ opened.opened = true ∧ opened.session = false ∧ inSession.opened = true
      ∧ inSession.session = true := by decide
theorem witness_opening : openingState.busy = true ∧ openingState.opened = false := by decide
/-- SETBAUD: both bounds of the divider, and the three ways out of range. -/
theorem witness_divider :
    (1 ≤ 4 / (4 * 1) ∧ 262147 / (4 * 1) ≤ 65536) ∧ 3 / (4 * 1) = 0 ∧ 65536 < 262148 / (4 * 1)
      ∧ inSession.baudTgt.toNat ≠ 0 ∧ ({ inSession with baudTgt := 0 } : State).baudTgt.toNat = 0 := by decide
/-- WRITE.op: a block that ends at the last byte of flash, and an empty block at the end. -/
theorem witness_write_op :
    (0x0FFD : W16).toNat + 3 ≤ inSession.flashSz.toNat ∧ (0x1000 : W16).toNat + 0 ≤ inSession.flashSz.toNat
      ∧ Memory.readRange [(0, 0xFF), (1, 0xFE), (2, 0xFD)] 0 3 = some [0xFF, 0xFE, 0xFD] ∧ Memory.readRange [] 0 0 = some [] := by
  decide
theorem witness_unwritten : ∃ k, k < ({ inSession with txlen := 1 } : State).txlen.toNat ∧ inSession.txbuf.read k = none :=
  ⟨0, by decide⟩
theorem witness_oversize :
    inSession.flashSz.toNat < (0x0FFD : W16).toNat + (4 : W16).toNat
      ∧ (0x0000 : W16).toNat + (65525 : W16).toNat ≤ (70000 : W32).toNat ∧ 65524 < (65525 : W16).toNat
      ∧ 65529 < (65530 : W16).toNat := by decide

/-! The handshake. -/
theorem witness_probe : polling.busy = true ∧ polling.phase = .probe ∧ polling.counted = true ∧ polling.inbox = [] := by decide
theorem witness_loop_head :
    (999 : W24).toNat < base.wait.toNat * 100 ∧ base.wait.toNat * 100 ≤ (1000 : W24).toNat := by decide
theorem witness_silent :
    ({ polling with counted := false, iter := 0 } : State).iter = 0 ∧ polling.op = .identify ∧ polling.rxq = [] := by decide
theorem witness_ident :
    identAwaiting.op = .identify ∧ (Instr.rIdent id72).WellFormed
      ∧ Config.catalog (identId id72) = some ("STC8G1K04-20/16P", 4096) := ⟨rfl, rfl, rfl⟩
theorem witness_catalog :
    23 ≤ id72.length ∧ (fun _ => none : W16 → Option (String × W32)) (be16 (id72.getD 20 0) (id72.getD 21 0)) = none := by decide
theorem witness_short : (List.replicate 22 (0x50 : Byte)).length < 23 ∧ ([] : List Byte).length < 23 := by decide

/-! Frames out and replies in. -/
theorem witness_host_frames :
    sending (hostPayload (.baudSet 0x1B 0xFFCC)) (sendingState .setbaud (baudSetPayload 0x1B 0xFFCC)) = true
      ∧ sending (hostPayload .baudCheckShort) (sendingState .checkbaud checkShortPayload) = true
      ∧ sending (hostPayload .baudCheckExt) (sendingState .checkbaud checkExtPayload) = true
      ∧ sending (hostPayload .erase) { sendingState .erase erasePayload with txi := 12 } = true
      ∧ sending (hostPayload (.write 0x0100 [0x02])) (sendingState .write (writePayload 0x0100 [0x02])) = true
      ∧ sending (hostPayload (.xferFrame [])) (sendingState .xfer []) = true := by decide
theorem witness_expected :
    (awaiting .setbaud).expect = some 0x01 ∧ (awaiting .checkbaud).expect = some 0x05 ∧ (awaiting .erase).expect = some 0x03
      ∧ (awaiting .write).expect = some 0x02 ∧ (awaiting .xfer).expect = none ∧ (awaiting .erase).op ≠ .identify
      ∧ (Instr.rBaudSet []).WellFormed ∧ (Instr.rBaudCheck []).WellFormed ∧ (Instr.rErase []).WellFormed
      ∧ (Instr.rWrite [0x54]).WellFormed ∧ (Instr.rAny []).WellFormed := by decide
theorem witness_conforming : Conforming (awaiting .erase).op eraseReply :=
  ⟨.rErase [], by decide, fun p h => by cases h⟩
theorem witness_conforming_ident : Conforming identAwaiting.op (encodeFrame rxCode id72) :=
  ⟨.rIdent id72, by decide, fun p h => by cases h; decide⟩
theorem witness_unexpected :
    (∀ q, ([] : List Byte) ≠ 0x02 :: q) ∧ (∀ q, ([0x22] : List Byte) ≠ 0x02 :: q) := by simp
theorem witness_missing :
    reading (awaiting .erase) = true ∧ (awaiting .erase).rxs = .sPrefix ∧ reading identAwaiting = true
      ∧ identAwaiting.rxs = .sPrefix ∧ identAwaiting.op = .identify ∧ reading midFrame = true ∧ midFrame.rxs ≠ .sPrefix
      ∧ (0x47 : Byte) ≠ 0x46 := by decide
theorem witness_waiting :
    inSession.opened = true ∧ inSession.phase ≠ .rx ∧ inSession.phase ≠ .finish ∧ polling.phase ≠ .rx
      ∧ base.opened = false ∧ base.phase ≠ .opening ∧ openingState.opened = false ∧ openingState.phase = .opening
      ∧ (awaiting .erase).opened = true ∧ reading (awaiting .erase) = true := by decide
/-- R313: CLOSE first, then the first byte of the reply: the byte is lost. -/
theorem test_overtaken :
    nextOf (core.run 2 { awaiting .erase with inbox := [.writeReg .cmd 0x02, .receive [0x46]] }) (fun t => (t.rxq, statusByte t))
      = some ([], 0x28) := by decide

/-! The whole machine. -/
theorem witness_fetch :
    fetch { base with inbox := [.writeReg .cmd 0x01] } = some (.cmd, [0x01]) ∧ decode .cmd [0x01] = .ok (.openOp, []) := by decide
theorem witness_fetch_frame :
    fetch (sendingState .erase erasePayload) = some (.toDevice, encodeFrame txCode erasePayload)
      ∧ decode .toDevice (encodeFrame txCode erasePayload) = .ok (.erase, []) := by decide
/-- An opened block that takes IDENTIFY: the premises of the statements about every step. -/
theorem witness_step : nextOf (step { opened with inbox := [.writeReg .cmd 0x03] }) (fun t => t.op) = some .identify := by decide
theorem witness_step_session :
    nextOf (step { identAwaiting with inbox := [.receive (encodeFrame rxCode id72)] }) (fun t => (stage t, t.done))
      = some (.session, true) := by decide
theorem witness_step_opened :
    nextOf (step { openingState with inbox := [.openAnswer true] }) (fun t => (stage t, t.baudCur)) = some (.opened, 2400) := by
  decide
theorem witness_step_rate :
    nextOf (step { inSession with inbox := [.writeReg .cmd 0x05] }) (fun t => (t.op, t.baudCur)) = some (.checkbaud, 115200) := by
  decide
theorem witness_step_host :
    nextOf (step { base with inbox := [.writeReg .addr 0x12345678] }) (fun t => t.addr) = some 0x5678 := by decide
theorem witness_step_fault :
    faults (step { inSession with txlen := 1, inbox := [.writeReg .cmd 0x07] }) .txUnwritten = true
      ∧ faults (step { base with inbox := [.load 65529 0x00] }) .noSuchByte = true := by decide
theorem witness_step_failed :
    nextOf (step { failed with inbox := [.writeReg .cmd 0x01] }) (fun t => (t.err, t.errReg)) = some (true, 0x28)
      ∧ nextOf (step { failed with inbox := [.writeReg .cmd 0x0F] }) (fun t => t.err) = some false := by decide
theorem witness_step_fails :
    nextOf (step { awaiting .erase with inbox := [.timeout] }) (fun t => (t.err, t.errReg)) = some (true, 0x26)
      ∧ nextOf (step { base with inbox := [.writeReg .cmd 0x03] }) (fun t => (t.err, t.errReg)) = some (true, 0x28) := by decide
theorem witness_step_reset :
    nextOf (step { inSession with inbox := [.reset] }) (fun t => (stage t, statusByte t)) = some (.closed, 0x00) := by decide
/-- The three ways to the closed stage (CLOSE in a session, an abort, a fatal failure), and two failures that keep the stage. -/
theorem witness_step_closed :
    nextOf (step { inSession with inbox := [.writeReg .cmd 0x02] }) (fun t => (stage t, t.done, t.busy)) = some (.closed, true, false)
      ∧ nextOf (step { polling with inbox := [.writeReg .cmd 0x02] }) (fun t => (stage t, t.done, t.busy))
        = some (.closed, true, false)
      ∧ nextOf (step { awaiting .erase with inbox := [.timeout] }) (fun t => (stage t, t.errReg &&& 0x0F)) = some (.closed, 0x06) := by
  decide
theorem witness_step_keeps_stage :
    nextOf (step { inSession with inbox := [.writeReg .cmd 0x03] }) (fun t => (stage t, t.errReg)) = some (.session, 0x58)
      ∧ nextOf (step { polling with counted := false, iter := 0, wait := 0 }) (fun t => (stage t, t.errReg))
        = some (.opened, 0x02) := by decide
/-- Host accesses: an idle and a busy block, an RW and a read-only register, with and without a session. -/
theorem witness_host_access :
    HReg.addr ≠ .cmd ∧ inSession.busy = false ∧ polling.busy = true ∧ HReg.err ∉ [HReg.baudInit, .baudTgt, .wait, .addr, .txlen]
      ∧ inSession.session = true ∧ opened.session = false := by decide
/-- R23: one flag at a time. -/
theorem test_status_bits :
    [({ base with busy := true } : State), { base with opened := true }, { base with session := true }, { base with done := true },
        { base with err := true }, { base with tmoLong := true }].map statusByte = [0x01, 0x02, 0x04, 0x08, 0x10, 0x20] := by decide
theorem witness_load :
    nextOf (step { base with inbox := [.load 65528 0xA5] }) (readTxbuf 65528) = some (some 0xA5)
      ∧ nextOf (step { polling with inbox := [.load 0 0xA5] }) (fun t => t.txbuf) = some [] := by decide

end Sys2Proof.Tests
end

section
/-!
The byte machine of R157 against the procedure of R150: what DECODE has done with the bytes it was given, field by field from
the last field of the frame to the first.
-/

namespace Sys2Proof.Machine

/-- `s` with the receiver's registers as in `t` and RXLEN counting the payload `p`: `decodedTo` without the long timeout. -/
def receivedTo (p : List Byte) (t s : State) : State :=
  { s with
    rxlen := BitVec.ofNat 16 p.length
    rxbuf := t.rxbuf
    rxs := t.rxs
    rxcnt := t.rxcnt
    rxacc := t.rxacc
    rxhdr0 := t.rxhdr0
    rxhdr1 := t.rxhdr1
    rxsize := t.rxsize
    rxchk := t.rxchk
    rxsuf := t.rxsuf }

theorem decodedTo_eq_receivedTo (p : List Byte) (t s : State) : decodedTo p t s = receivedTo p t (tpSetTimeout true s) := rfl

/-- The machine has gone from `s` to `t` as the procedure's result `r` says; `s0` has RXBUF as DECODE found it. A truncated frame
leaves the machine inside the frame. -/
def Decoded (s0 s t : State) : FrameResult → Prop
  | .frame p rest => t = { receivedTo p t s with phase := .finish, rxq := rest } ∧ PayloadStored p s0 t
  | .noFrame _ => False
  | .bad .trunc stored _ =>
      t = { receivedTo stored t s with rxq := [] } ∧ PayloadStored stored s0 t ∧ t.rxs ≠ .sPrefix
  | .bad e stored rest =>
      t = failedWith (frameFailure e).1.code (frameFailure e).2 { receivedTo stored t s with rxq := rest }
        ∧ PayloadStored stored s0 t

/-- A step inside the frame changes only what `receivedTo` sets, so the result may be told from either side of it. -/
theorem Decoded.of_receivedTo_eq {s0 s s' t : State} {r : FrameResult} (h : Decoded s0 s' t r)
    (hs : ∀ p q, ({ receivedTo p t s' with rxq := q } : State) = { receivedTo p t s with rxq := q }) :
    Decoded s0 s t r := by
  have hf : ∀ p q, ({ receivedTo p t s' with phase := .finish, rxq := q } : State)
      = { receivedTo p t s with phase := .finish, rxq := q } := fun p q =>
    congrArg (fun u : State => { u with phase := .finish }) (hs p q)
  cases r with
  | frame p rest => exact ⟨h.1.trans (hf p rest), h.2⟩
  | noFrame rest => exact h
  | bad e stored rest =>
    cases e <;> simp only [Decoded, hs] at h ⊢ <;> exact h

/-- The stream ends inside the frame. -/
theorem Decoded.of_end {s0 s : State} {p rest : List Byte} (hq : s.rxq = []) (hp : s.rxlen = BitVec.ofNat 16 p.length)
    (hb : PayloadStored p s0 s) (hx : s.rxs ≠ .sPrefix) :
    Decoded s0 s (drain ([] : List Byte).length s) (.bad .trunc p rest) := by
  refine ⟨?_, hb, hx⟩
  rw [drain_nil _ _ hq]
  simp only [receivedTo, ← hp, ← hq]

/-- A byte that ends the receiving. -/
theorem drain_last {s : State} {b : Byte} {bs : List Byte} (hr : reading s = true) (hq : s.rxq = b :: bs)
    (h : reading (takeByte b { s with rxq := bs }) = false) :
    drain (b :: bs).length s = takeByte b { s with rxq := bs } := by
  rw [List.length_cons, drain_cons _ _ _ _ hq hr, drain_stop _ _ h]

/-- A fatal failure as the statements write it. -/
theorem raise_eq_failedWith {f : Failure} (hf : f.fatal = true) (info : W16) (s : State) :
    raise f info s = failedWith f.code info s := by
  rw [raise, if_pos hf]
  rfl

theorem frameFailure_fatal (e : FrameError) : (frameFailure e).1.fatal = true := by cases e <;> rfl

/-- A rejected frame: the failure is raised on the receiver's registers as they stand. -/
theorem Decoded.of_raise {s0 s u : State} {p rest : List Byte} {e : FrameError} (he : e ≠ .trunc)
    (hu : u = { receivedTo p u s with rxq := rest }) (hb : PayloadStored p s0 u) :
    Decoded s0 s (raise (frameFailure e).1 (frameFailure e).2 u) (.bad e p rest) := by
  rw [raise_eq_failedWith (frameFailure_fatal e)]
  cases e with
  | trunc => exact absurd rfl he
  | _ => exact ⟨congrArg (failedWith _ _) hu, hb⟩

/-! ### The fields -/

/-- DECODE reads field `f`, has read `k` bytes of it and stored `p`; the bytes `bs` wait. -/
structure Inside (s0 s : State) (p bs : List Byte) (f : RxField) (k : Nat) : Prop where
  reading : reading s = true
  queue : s.rxq = bs
  field : s.rxs = f
  count : s.rxcnt = k
  rxlen : s.rxlen = BitVec.ofNat 16 p.length
  stored : PayloadStored p s0 s

section
variable {s0 s s' : State} {p bs rest : List Byte} {b : Byte} {f : RxField} {k : Nat} {r : FrameResult}

theorem Inside.decoded_end (h : Inside s0 s p [] f k) (hf : f ≠ .sPrefix) :
    Decoded s0 s (drain ([] : List Byte).length s) (.bad .trunc p rest) :=
  Decoded.of_end h.queue h.rxlen h.stored (h.field ▸ hf)

/-- A byte after which the machine is still inside the frame. -/
theorem Inside.decoded_next (h : Inside s0 s p (b :: bs) f k) (hd : Decoded s0 s' (drain bs.length s') r)
    (hb : takeByte b { s with rxq := bs } = s')
    (hs : ∀ p t q, ({ receivedTo p t s' with rxq := q } : State) = { receivedTo p t s with rxq := q }) :
    Decoded s0 s (drain (b :: bs).length s) r := by
  rw [List.length_cons, drain_cons _ _ _ _ h.queue h.reading, hb]
  exact hd.of_receivedTo_eq fun p q => hs p _ q

/-- A byte for which the frame is rejected. -/
theorem Inside.decoded_rejected {e : FrameError} (h : Inside s0 s p (b :: bs) f k)
    (hb : takeByte b { s with rxq := bs } = raise (frameFailure e).1 (frameFailure e).2 s') (he : e ≠ .trunc)
    (hs : s' = { receivedTo p s' s with rxlen := s.rxlen, rxq := bs }) (hm : s'.rxbuf = s.rxbuf) :
    Decoded s0 s (drain (b :: bs).length s) (.bad e p bs) := by
  rw [drain_last h.reading h.queue (by rw [hb]; exact reading_raise _ _ _), hb]
  rw [h.rxlen] at hs
  refine Decoded.of_raise he hs ?_
  have := h.stored
  unfold PayloadStored at this ⊢
  rwa [hm]

/-- The suffix, after the two checksum bytes (R155). -/
theorem Inside.decoded_suffix (h : Inside s0 s p bs .sSuffix 0) (ha : s.rxacc = chksum rxCode p) :
    Decoded s0 s (drain bs.length s) (parseTail rxCode p (hi s.rxchk :: lo s.rxchk :: bs)) := by
  cases bs with
  | nil => exact h.decoded_end (by simp)
  | cons e rest =>
    have ht : takeByte e { s with rxq := rest } = takeSuffix e { s with rxq := rest } := by simp [takeByte, h.field]
    simp only [parseTail, be16_hi_lo, ← ha]
    by_cases hc : s.rxacc = s.rxchk
    · rw [if_neg (not_not.mpr hc)]
      by_cases he : e = suffixByte
      · have hs : takeByte e { s with rxq := rest } = { s with rxq := rest, rxsuf := e, phase := .finish } := by
          rw [ht]
          simp [takeSuffix, hc, he]
        rw [drain_last h.reading h.queue (by simp [hs, Machine.reading]), hs, if_neg (not_not.mpr he)]
        exact ⟨by simp only [receivedTo, ← h.rxlen], h.stored⟩
      · rw [if_pos he]
        refine h.decoded_rejected (e := .suffix e) (s' := { s with rxq := rest, rxsuf := e }) ?_ (by simp) rfl rfl
        rw [ht]
        simp [takeSuffix, hc, he, frameFailure]
    · rw [if_pos hc]
      refine h.decoded_rejected (e := .checksum s.rxchk) (s' := { s with rxq := rest, rxsuf := e }) ?_ (by simp) rfl rfl
      rw [ht]
      simp [takeSuffix, hc, frameFailure]

theorem hi_shiftIn (v : W16) (b : Byte) : hi (shiftIn v b) = lo v := hi_be16 _ _
theorem lo_shiftIn (v : W16) (b : Byte) : lo (shiftIn v b) = b := lo_be16 _ _

/-- The second checksum byte. -/
theorem Inside.decoded_chk_one (h : Inside s0 s p bs .sChk 1) (ha : s.rxacc = chksum rxCode p) :
    Decoded s0 s (drain bs.length s) (parseTail rxCode p (lo s.rxchk :: bs)) := by
  cases bs with
  | nil => exact h.decoded_end (by simp)
  | cons c rest =>
    have hd := Inside.decoded_suffix (s0 := s0) (bs := rest)
      (s := { s with rxq := rest, rxchk := shiftIn s.rxchk c, rxs := .sSuffix, rxcnt := 0 })
      ⟨h.reading, rfl, rfl, rfl, h.rxlen, h.stored⟩ ha
    rw [hi_shiftIn, lo_shiftIn] at hd
    exact h.decoded_next hd (by simp [takeByte, h.field, takeChk, h.count]) fun _ _ _ => rfl

/-- The checksum. -/
theorem Inside.decoded_chk (h : Inside s0 s p bs .sChk 0) (ha : s.rxacc = chksum rxCode p) :
    Decoded s0 s (drain bs.length s) (parseTail rxCode p bs) := by
  cases bs with
  | nil => exact h.decoded_end (by simp)
  | cons c rest =>
    have hd := Inside.decoded_chk_one (s0 := s0) (bs := rest)
      (s := { s with rxq := rest, rxchk := shiftIn s.rxchk c, rxcnt := 1 })
      ⟨h.reading, rfl, h.field, rfl, h.rxlen, h.stored⟩ ha
    rw [lo_shiftIn] at hd
    exact h.decoded_next hd (by simp [takeByte, h.field, takeChk, h.count]) fun _ _ _ => rfl

/-- The checksum over the code, a SIZE field `z` and the payload bytes stored so far. -/
def runningSum (z : W16) (p : List Byte) : W16 :=
  BitVec.ofNat 16 (rxCode.toNat + (hi z).toNat + (lo z).toNat + byteSum p)

theorem addByte_ofNat (n : Nat) (b : Byte) : addByte (BitVec.ofNat 16 n) b = BitVec.ofNat 16 (n + b.toNat) := by
  apply BitVec.eq_of_toNat_eq
  simp [addByte]

theorem addByte_runningSum (z : W16) (p : List Byte) (b : Byte) :
    addByte (runningSum z p) b = runningSum z (p ++ [b]) := by
  simp [runningSum, addByte_ofNat, byteSum, Nat.add_assoc]

/-- With the whole payload in, the running sum is the checksum. -/
theorem runningSum_full {z : W16} {p : List Byte} (h : p.length + 6 = z.toNat) : runningSum z p = chksum rxCode p := by
  have hz : sizeField p = z := by
    rw [sizeField, h, BitVec.ofNat_toNat, BitVec.setWidth_eq]
  rw [chksum, hz, runningSum]

/-- The byte after the payload stored so far. -/
theorem PayloadStored.snoc {t t' : State} (h : PayloadStored p s0 t) (ht : t'.rxbuf = t.rxbuf.write p.length b) :
    PayloadStored (p ++ [b]) s0 t' := by
  obtain ⟨hp, ha⟩ := h
  rw [PayloadStored, ht, List.length_append]
  refine ⟨?_, fun a hle => ?_⟩
  · simpa using Memory.readRange_snoc t.rxbuf 0 p.length b p hp
  · rw [List.length_singleton] at hle
    rw [Memory.read_write_other _ _ _ _ (by omega), ha a (by omega)]

/-- The payload (R43, R157): `p` is stored, more is to come. -/
theorem Inside.decoded_payload (h : Inside s0 s p bs .sPayload p.length) (hl : p.length < s.rxsize.toNat - 6)
    (ha : s.rxacc = runningSum s.rxsize p) :
    Decoded s0 s (drain bs.length s) (parsePayload rxCode (s.rxsize.toNat - 6) (p ++ bs)) := by
  induction bs generalizing s p with
  | nil =>
    rw [List.append_nil, parsePayload, if_pos hl]
    exact h.decoded_end (by simp)
  | cons b bs ih =>
    have hm : PayloadStored (p ++ [b]) s0 { s with rxbuf := s.rxbuf.write p.length b } := h.stored.snoc rfl
    have hn : (p ++ [b]).length = p.length + 1 := List.length_append
    rw [List.append_cons p b bs]
    by_cases hlast : p.length + 1 = s.rxsize.toNat - 6
    · rw [parsePayload, if_neg (by simp; omega), ← hlast, ← hn, List.take_left, List.drop_left]
      have hd := Inside.decoded_chk (s0 := s0) (p := p ++ [b]) (bs := bs)
        (s := { s with
          rxq := bs, rxbuf := s.rxbuf.write p.length b, rxacc := addByte s.rxacc b
          rxlen := BitVec.ofNat 16 (p.length + 1), rxs := .sChk, rxcnt := 0 })
        ⟨h.reading, rfl, rfl, rfl, by rw [hn], hm⟩
        (by rw [ha, addByte_runningSum, runningSum_full (by omega)])
      exact h.decoded_next hd (by simp [takeByte, h.field, takePayload, h.count, hlast]) fun _ _ _ => rfl
    · have hmore : (p ++ [b]).length < s.rxsize.toNat - 6 := by rw [hn]; omega
      have hd := ih (p := p ++ [b])
        (s := { s with
          rxq := bs, rxbuf := s.rxbuf.write p.length b, rxacc := addByte s.rxacc b
          rxlen := BitVec.ofNat 16 (p.length + 1), rxcnt := p.length + 1 })
        ⟨h.reading, rfl, h.field, hn.symm, by rw [hn], hm⟩ hmore (by rw [ha, addByte_runningSum])
      exact h.decoded_next hd (by simp [takeByte, h.field, takePayload, h.count, hlast]) fun _ _ _ => rfl

/-- The second byte of SIZE (R153). -/
theorem Inside.decoded_size_one (h : Inside s0 s [] bs .sSize 1)
    (ha : s.rxacc = addByte (rxCode.setWidth 16) (lo s.rxsize)) :
    Decoded s0 s (drain bs.length s) (parseSize rxCode (lo s.rxsize :: bs)) := by
  cases bs with
  | nil => exact h.decoded_end (by simp)
  | cons b rest =>
    have hz : be16 (lo s.rxsize) b = shiftIn s.rxsize b := rfl
    have hsum : addByte s.rxacc b = runningSum (shiftIn s.rxsize b) [] := by
      rw [ha, runningSum, hi_shiftIn, lo_shiftIn, show rxCode.setWidth 16 = BitVec.ofNat 16 rxCode.toNat from rfl,
        addByte_ofNat, addByte_ofNat]
      rfl
    have ht : takeByte b { s with rxq := rest } = takeSize b { s with rxq := rest } := by simp [takeByte, h.field]
    rw [parseSize, hz]
    rcases Nat.lt_trichotomy (shiftIn s.rxsize b).toNat 6 with hlt | heq | hgt
    · rw [if_pos hlt]
      refine h.decoded_rejected (e := .size (shiftIn s.rxsize b))
        (s' := { s with rxq := rest, rxsize := shiftIn s.rxsize b, rxacc := addByte s.rxacc b, rxcnt := 2 })
        ?_ (by simp) rfl rfl
      rw [ht]
      simp [takeSize, h.count, hlt, frameFailure]
    · rw [if_neg (by omega), heq]
      have hd := Inside.decoded_chk (s0 := s0) (p := []) (bs := rest)
        (s := { s with
          rxq := rest, rxsize := shiftIn s.rxsize b, rxacc := addByte s.rxacc b, rxs := .sChk, rxcnt := 0 })
        ⟨h.reading, rfl, rfl, rfl, h.rxlen, h.stored⟩ (hsum.trans (runningSum_full (by simp [heq])))
      exact h.decoded_next hd (by rw [ht]; simp [takeSize, h.count, heq]) fun _ _ _ => rfl
    · rw [if_neg (by omega)]
      have hd := Inside.decoded_payload (s0 := s0) (p := []) (bs := rest)
        (s := { s with
          rxq := rest, rxsize := shiftIn s.rxsize b, rxacc := addByte s.rxacc b, rxs := .sPayload, rxcnt := 0 })
        ⟨h.reading, rfl, rfl, rfl, h.rxlen, h.stored⟩ (Nat.sub_pos_of_lt hgt) hsum
      exact h.decoded_next hd
        (by rw [ht]; simp [takeSize, h.count, Nat.not_lt_of_gt hgt, Nat.ne_of_gt hgt]) fun _ _ _ => rfl

/-- SIZE. -/
theorem Inside.decoded_size (h : Inside s0 s [] bs .sSize 0) (ha : s.rxacc = rxCode.setWidth 16) :
    Decoded s0 s (drain bs.length s) (parseSize rxCode bs) := by
  cases bs with
  | nil => exact h.decoded_end (by simp)
  | cons b rest =>
    have hd := Inside.decoded_size_one (s0 := s0) (bs := rest)
      (s := { s with rxq := rest, rxsize := shiftIn s.rxsize b, rxacc := addByte s.rxacc b, rxcnt := 1 })
      ⟨h.reading, rfl, h.field, rfl, h.rxlen, h.stored⟩ (by simp [ha, lo_shiftIn])
    rw [lo_shiftIn] at hd
    exact h.decoded_next hd (by simp [takeByte, h.field, takeSize, h.count]) fun _ _ _ => rfl

/-- The second header byte, before either is compared (R152). -/
theorem Inside.decoded_header_one (h : Inside s0 s [] bs .sHdr 1) (ha : s.rxacc = rxCode.setWidth 16) :
    Decoded s0 s (drain bs.length s) (parseHeader rxCode (s.rxhdr0 :: bs)) := by
  cases bs with
  | nil => exact h.decoded_end (by simp)
  | cons b rest =>
    have ht : takeByte b { s with rxq := rest } = takeHeader b { s with rxq := rest } := by simp [takeByte, h.field]
    rw [parseHeader]
    split
    · rename_i hok
      have hd := Inside.decoded_size (s0 := s0) (bs := rest)
        (s := { s with rxq := rest, rxhdr1 := b, rxs := .sSize, rxcnt := 0 })
        ⟨h.reading, rfl, rfl, rfl, h.rxlen, h.stored⟩ ha
      exact h.decoded_next hd (by rw [ht]; simp [takeHeader, h.count, hok]) fun _ _ _ => rfl
    · rename_i hbad
      refine h.decoded_rejected (e := .header (be16 s.rxhdr0 b)) (s' := { s with rxq := rest, rxhdr1 := b, rxcnt := 2 })
        ?_ (by simp) rfl rfl
      rw [ht, takeHeader, if_neg (by simp [h.count]), if_neg hbad]
      rfl

/-- The header. -/
theorem Inside.decoded_header (h : Inside s0 s [] bs .sHdr 0) (ha : s.rxacc = rxCode.setWidth 16) :
    Decoded s0 s (drain bs.length s) (parseHeader rxCode bs) := by
  cases bs with
  | nil => exact h.decoded_end (by simp)
  | cons b rest =>
    have hd := Inside.decoded_header_one (s0 := s0) (bs := rest) (s := { s with rxq := rest, rxhdr0 := b, rxcnt := 1 })
      ⟨h.reading, rfl, h.field, rfl, h.rxlen, h.stored⟩ ha
    exact h.decoded_next hd (by simp [takeByte, h.field, takeHeader, h.count]) fun _ _ _ => rfl

end

/-! ### The whole frame -/

/-- A DECODE start on a stream that begins with PREFIX: the machine agrees with the procedure from the header on. -/
theorem AtDecodeStart.decoded_prefix {s : State} (h : AtDecodeStart s) (rest : List Byte) :
    Decoded s (tpSetTimeout true s) (drain (prefixByte :: rest).length { s with rxq := prefixByte :: rest })
      (parseHeader rxCode rest) := by
  have hb : takeByte prefixByte { s with rxq := rest }
      = { tpSetTimeout true s with rxq := rest, rxs := .sHdr, rxcnt := 0 } := by
    simp [takeByte, h.field, takePrefix, tpSetTimeout]
  rw [List.length_cons, drain_cons _ { s with rxq := prefixByte :: rest } _ _ rfl h.reading]
  show Decoded s _ (drain rest.length (takeByte prefixByte { s with rxq := rest })) _
  rw [hb]
  refine Decoded.of_receivedTo_eq (Inside.decoded_header
    ⟨h.reading, rfl, rfl, rfl, h.rxlen, ⟨rfl, fun _ _ => rfl⟩⟩ h.rxacc) fun _ _ => rfl

/-- A timeout inside the frame (R154). -/
theorem takeTimeout_inside {t : State} (h : t.rxs ≠ .sPrefix) : takeTimeout t = failedWith 0x33 0 t := by
  rw [takeTimeout, if_neg h, raise_eq_failedWith rfl]
  rfl

/-- Settles O9: the first byte decides between NoFrame and the frame, whose fields are followed one by one. -/
theorem byteMachineAgreesWithDecode : Obligations.ByteMachineAgreesWithDecode := by
  unfold Obligations.ByteMachineAgreesWithDecode
  intro s bs h t
  cases bs with
  | nil => exact .inl ⟨rfl, rfl⟩
  | cons b rest =>
    by_cases hb : b = prefixByte
    · subst hb
      have hd : Decoded s (tpSetTimeout true s) t (parseHeader rxCode rest) := h.decoded_prefix rest
      rw [parseFrame, if_pos rfl]
      generalize parseHeader rxCode rest = r at hd
      cases r with
      | frame p r => exact hd
      | noFrame r => exact hd.elim
      | bad e p r =>
        cases e with
        | trunc =>
          obtain ⟨ht, hp, hx⟩ := hd
          exact ⟨ht, hp, takeTimeout_inside hx⟩
        | _ => exact hd
    · have ht : takeByte b { s with rxq := rest } = noFrame { s with rxq := rest } := by
        simp [takeByte, h.field, takePrefix, hb]
      rw [parseFrame, if_neg hb]
      refine .inr ⟨by simp, ?_⟩
      show drain (b :: rest).length { s with rxq := b :: rest } = _
      rw [drain_last (s := { s with rxq := b :: rest }) h.reading rfl]
      · exact ht
      · exact (congrArg reading ht).trans (reading_noFrame _)

end Sys2Proof.Machine
end

section
/-!
Every step keeps the invariant of the block, and stops only on the host's own errors: one lemma for each operation a step is made
of, then the outcomes of a step one by one.
-/

namespace Sys2Proof.Machine

/-- The part of the invariant that holds whatever the block is doing. -/
structure Sound (s : State) : Prop where
  session_opened : s.session = true → s.opened = true
  rx_listed : ∀ k, k < s.rxlen.toNat → s.rxbuf.read k ≠ none
  txbuf_wf : s.txbuf.wf
  rxbuf_wf : s.rxbuf.wf

section
variable {s : State}

theorem Inv.sound (h : Inv s) : Sound s := ⟨h.session_opened, h.rx_listed, h.txbuf_wf, h.rxbuf_wf⟩

/-- While BUSY = 1 no failure is recorded. -/
theorem Inv.clear_of_busy (h : Inv s) (hb : s.busy = true) :
    s.err = false ∧ s.done = false ∧ s.errReg = 0 ∧ s.errInfo = 0 :=
  ⟨(h.busy_clear hb).1, (h.busy_clear hb).2, h.no_failure (h.busy_clear hb).1⟩

/-- Between operations the invariant is `Sound` and what STATUS and ERR say of each other. -/
theorem Sound.inv_of_idle (h : Sound s) (hb : s.busy = false) (ho : s.op = .nothing) (hp : s.phase = .idle)
    (hd : s.done = true → s.err = false) (hn : s.err = false → s.errReg = 0 ∧ s.errInfo = 0)
    (hf : s.err = true → ∃ f : Failure, s.errReg = f.code) : Inv s where
  busy_clear := by simp [hb]
  session_opened := h.session_opened
  done_clear := hd
  no_failure := hn
  failure := hf
  op_nothing := by simp [hb, ho]
  phase_idle := by simp [hb, hp]
  phase_opening := by simp [ho, hp]
  phase_probe := by simp [hp]
  phase_tx := by simp [hp]
  link := by simp [hb]
  no_session := by simp [ho]
  in_session := by simp [ho, expectOf]
  expected := by simp [hb]
  iter_bound := by simp [ho]
  field := by simp [hp]
  rx_listed := h.rx_listed
  txbuf_wf := h.txbuf_wf
  rxbuf_wf := h.rxbuf_wf

/-- Events, waiting bytes and free values are outside the invariant. -/
theorem Inv.environment (h : Inv s) (q : List Byte) (r : List Event) (n : Nat) :
    Inv { s with rxq := q, inbox := r, fresh := n } := { h with }

/-! ### The ends of an operation -/

theorem Sound.inv_raise (h : Sound s) (f : Failure) (info : W16) : Inv (raise f info s) := by
  have hs : Sound (raise f info s) := by
    refine ⟨?_, by simpa using h.rx_listed, by simpa using h.txbuf_wf, by simpa using h.rxbuf_wf⟩
    simp only [raise_session, raise_opened, Bool.and_eq_true]
    exact fun ⟨hf, hs⟩ => ⟨hf, h.session_opened hs⟩
  exact hs.inv_of_idle (by simp) (by simp) (by simp) (by simp) (by simp) fun _ => ⟨f, by simp⟩

theorem Sound.inv_complete (h : Sound s) (he : s.err = false) (hr : s.errReg = 0 ∧ s.errInfo = 0) : Inv (complete s) := by
  have hs : Sound (complete s) := { h with }
  exact hs.inv_of_idle rfl rfl rfl (fun _ => he) (fun _ => hr) (by simp [he])

theorem Inv.complete (h : Inv s) (hb : s.busy = true) : Inv (complete s) := by
  obtain ⟨he, -, hr⟩ := h.clear_of_busy hb
  exact h.sound.inv_complete he hr

theorem Inv.abort (h : Inv s) (hb : s.busy = true) : Inv (abort s) := by
  obtain ⟨he, -, hr⟩ := h.clear_of_busy hb
  have hs : Sound (Machine.abort s) := { h.sound with session_opened := nofun }
  exact hs.inv_of_idle rfl rfl rfl (fun _ => he) (fun _ => hr) (by simp [he])

theorem Inv.clearErr (h : Inv s) (hb : s.busy = false) : Inv (clearErr s) := by
  have hs : Sound (Machine.clearErr s) := { h.sound with }
  exact hs.inv_of_idle hb (h.op_nothing.mpr hb) (h.phase_idle.mpr hb) nofun (fun _ => ⟨rfl, rfl⟩) nofun

theorem inv_hwReset (s : State) : Inv (hwReset s) := by
  have hs : Sound (hwReset s) := ⟨nofun, nofun, Memory.wf_nil, Memory.wf_nil⟩
  exact hs.inv_of_idle rfl rfl rfl nofun (fun _ => ⟨rfl, rfl⟩) nofun

/-! ### Acceptance -/

/-- DONE is free to change while nothing is in progress and no failure is recorded. -/
theorem Inv.with_done (h : Inv s) (hb : s.busy = false) (he : s.err = false) (d : Bool) : Inv { s with done := d } where
  __ := h
  busy_clear := by simp [hb]
  done_clear := fun _ => he

theorem Inv.closeLink (h : Inv s) (hb : s.busy = false) : Inv (closeLink s) := by
  have hs : Sound (Machine.closeLink s) := { h.sound with session_opened := nofun }
  exact hs.inv_of_idle hb (h.op_nothing.mpr hb) (h.phase_idle.mpr hb) h.done_clear h.no_failure h.failure

theorem Inv.openPort (h : Inv s) (he : s.err = false) (hd : s.done = false) (ho : s.opened = false) :
    Inv { emit [.openPort Config.port] s with busy := true, op := .openPort, phase := .opening, expect := none } where
  __ := h
  busy_clear := fun _ => ⟨he, hd⟩
  op_nothing := by simp
  phase_idle := by simp
  phase_opening := by simp
  phase_probe := by simp
  phase_tx := by simp
  link := by simp [ho]
  no_session := by simp
  in_session := by simp [expectOf]
  expected := by simp [expectOf]
  iter_bound := by simp
  field := by simp

theorem Inv.identify (h : Inv s) (he : s.err = false) (hd : s.done = false) (ho : s.opened = true) (hs : s.session = false) :
    Inv { tpFlush s with busy := true, op := .identify, phase := .probe, counted := false, iter := 0, expect := none } where
  __ := h
  busy_clear := fun _ => ⟨he, hd⟩
  op_nothing := by simp
  phase_idle := by simp
  phase_opening := by simp
  phase_probe := by simp
  phase_tx := by simp
  link := by simp [ho]
  no_session := fun _ => hs
  in_session := by simp [expectOf]
  expected := by simp [expectOf]
  iter_bound := by simp
  field := by simp

/-- An exchange of one of the commands or of XFER begins. -/
theorem Inv.startExchange (h : Inv s) (he : s.err = false) (hd : s.done = false) (ho : s.opened = true) {o : Op}
    {p : List Byte} (hn : o ∉ [Op.nothing, .openPort, .identify]) (hs : expectOf o ≠ none → s.session = true)
    (hp : p.length ≤ maxPayload) : Inv (startExchange o p s) := by
  simp only [List.mem_cons, List.not_mem_nil, or_false, not_or] at hn
  obtain ⟨hn0, hn1, hn2⟩ := hn
  exact {
    busy_clear := fun _ => ⟨he, hd⟩
    session_opened := h.session_opened
    done_clear := h.done_clear
    no_failure := h.no_failure
    failure := h.failure
    op_nothing := by simp [hn0]
    phase_idle := by simp
    phase_opening := by simp [hn1]
    phase_probe := by simp
    phase_tx := by simp [hn2, hp]
    link := by simp [ho, hn1]
    no_session := by simp [hn2]
    in_session := hs
    expected := by simp
    iter_bound := by simp [hn2]
    field := by simp
    rx_listed := h.rx_listed
    txbuf_wf := h.txbuf_wf
    rxbuf_wf := h.rxbuf_wf }

theorem checkPayload_length (v : W24) : (checkPayload v).length ≤ maxPayload := by
  unfold checkPayload
  split <;> decide

/-- An accepted CMD value: `s` is ready, with DONE cleared. -/
theorem Inv.accepted {v : Byte} {o : Host.Outcome State Fault Refusal} (h : Inv s) (hb : s.busy = false)
    (he : s.err = false) (hd : s.done = false) (ha : Accepted v s o) :
    (∃ t, o = .next t ∧ Inv t) ∨ o = .fault .txUnwritten := by
  cases ha with
  | unwritten => exact .inr rfl
  | refused d info => exact .inl ⟨_, rfl, h.sound.inv_raise _ _⟩
  | capacity hv ho hs => exact .inl ⟨_, rfl, h.sound.inv_raise _ _⟩
  | nop hv => exact .inl ⟨_, rfl, h.with_done hb he true⟩
  | close hv => exact .inl ⟨_, rfl, (h.closeLink hb).with_done hb he true⟩
  | clrerr hv => exact .inl ⟨_, rfl, h.clearErr hb⟩
  | openPort hv ho => exact .inl ⟨_, rfl, h.openPort he hd ho⟩
  | identify hv ho hs => exact .inl ⟨_, rfl, h.identify he hd ho hs⟩
  | setbaud hv ho hs f c k =>
    have hk : Inv { s with count := k } := { h with }
    exact .inl ⟨_, rfl, hk.startExchange he hd ho (by decide) (fun _ => hs) (by simp [baudSetPayload, maxPayload])⟩
  | checkbaud hv ho hs =>
    have hk : Inv (tpSetBaud s.baudTgt s) := { h with }
    exact .inl ⟨_, rfl, hk.startExchange he hd ho (by decide) (fun _ => hs) (checkPayload_length _)⟩
  | erase hv ho hs => exact .inl ⟨_, rfl, h.startExchange he hd ho (by decide) (fun _ => hs) (by decide)⟩
  | write hv ho hs d hlen =>
    refine .inl ⟨_, rfl, h.startExchange he hd ho (by decide) (fun _ => hs) ?_⟩
    rw [writePayload, List.length_append]
    exact Nat.add_comm 5 d.length ▸ hlen
  | xfer hv ho d hlen => exact .inl ⟨_, rfl, h.startExchange he hd ho (by decide) (by simp [expectOf]) hlen⟩

theorem Inv.cmd {v : Byte} {o : Host.Outcome State Fault Refusal} (h : Inv s) (hc : CmdOutcome v s o) :
    (∃ t, o = .next t ∧ Inv t) ∨ o = .fault .txUnwritten := by
  cases hc with
  | abort hb hv => exact .inl ⟨_, rfl, h.abort hb⟩
  | dropped hdrop => exact .inl ⟨_, rfl, h⟩
  | clrerr hb hv => exact .inl ⟨_, rfl, h.clearErr hb⟩
  | accepted hb he o ha => exact (h.with_done hb he false).accepted hb he rfl ha

/-! ### Host writes -/

theorem Inv.writeReg (h : Inv s) (r : HReg) (v : W32) : Inv (writeReg r v s) := by
  unfold Machine.writeReg
  split
  · exact h
  · rename_i hb
    cases r with
    | wait =>
      have ho : s.op = .nothing := h.op_nothing.mpr (by simpa using hb)
      exact { h with iter_bound := by simp [ho] }
    | _ => exact { h with }

theorem Inv.loadByte (h : Inv s) (k : Nat) (b : Byte) :
    (∃ t, loadByte k b s = .next t ∧ Inv t) ∨ loadByte k b s = .fault .noSuchByte := by
  unfold Machine.loadByte
  split
  · exact .inl ⟨_, rfl, h⟩
  · split
    · rename_i hk
      exact .inl ⟨_, rfl, { h with txbuf_wf := Memory.wf_write _ _ _ h.txbuf_wf hk }⟩
    · exact .inr rfl

/-! ### The sequencer -/

theorem Inv.openAnswered (h : Inv s) (hb : s.busy = true) (ok : Bool) : Inv (openAnswered ok s) := by
  cases ok with
  | false => exact h.sound.inv_raise .transportUnavailable 0
  | true =>
    obtain ⟨he, -, hr⟩ := h.clear_of_busy hb
    exact Sound.inv_complete (s := tpSetTimeout false (tpSetBaud s.baudInit { s with opened := true }))
      { h.sound with session_opened := fun _ => rfl } he hr

/-- DECODE begins after the last byte of a probe or frame. -/
theorem Inv.startDecode (h : Inv s) (hb : s.busy = true) (hp : s.phase = .probe ∨ s.phase = .tx) (long : Bool) :
    Inv (startDecode long s) where
  __ := h
  phase_idle := by simp [hb]
  phase_opening := by
    have hne : s.phase ≠ .opening := by rcases hp with hp | hp <;> simp [hp]
    simpa using fun ho => hne (h.phase_opening.mpr ho)
  phase_probe := by simp
  phase_tx := by simp
  field := fun _ => rfl
  rx_listed := by simp

/-- A byte goes out and the next of the frame is due. -/
theorem Inv.sendByte (h : Inv s) (hb : s.busy = true) (hp : s.phase = .tx) : Inv (sendByte s) := by
  obtain ⟨ho, hl, hx⟩ := h.phase_tx hp
  unfold Machine.sendByte
  dsimp only
  split
  · refine Inv.startDecode (s := { emit _ s with txacc := _, txi := 0 }) ?_ hb (.inr hp) true
    exact { h with phase_tx := fun _ => ⟨ho, hl, Nat.zero_le _⟩ }
  · exact { h with phase_tx := fun _ => ⟨ho, hl, by show s.txi + 1 ≤ s.staged.length + 7; omega⟩ }

theorem Inv.sendFrame (h : Inv s) (hb : s.busy = true) (hp : s.phase = .tx) (calls : List TpCall) (acc : W16) :
    Inv (Machine.startDecode true { emit calls s with txacc := acc, txi := 0 }) := by
  obtain ⟨ho, hl, -⟩ := h.phase_tx hp
  refine Inv.startDecode (s := { emit calls s with txacc := acc, txi := 0 }) ?_ hb (.inr hp) true
  exact { h with phase_tx := fun _ => ⟨ho, hl, Nat.zero_le _⟩ }

theorem Inv.nextIteration (h : Inv s) : Inv (nextIteration s) := by
  unfold Machine.nextIteration
  split
  · rename_i hlt
    refine { h with iter_bound := fun _ => ?_ }
    have hw := s.wait.isLt
    simp only [iterLimit] at hlt
    have : (s.iter + 1).toNat = s.iter.toNat + 1 := by
      rw [BitVec.toNat_add, Nat.mod_eq_of_lt] <;> simp; omega
    show (s.iter + 1).toNat ≤ s.wait.toNat * 100
    omega
  · exact h.sound.inv_raise _ _

/-! ### The receiver -/

theorem Inv.noFrame (h : Inv s) (hb : s.busy = true) : Inv (noFrame s) := by
  unfold Machine.noFrame
  split
  · rename_i ho
    exact { h with
      phase_idle := by simp [hb]
      phase_opening := by simp [ho]
      phase_probe := fun _ => ho
      phase_tx := by simp
      field := by simp }
  · exact h.sound.inv_raise _ _

theorem Inv.takePrefix (h : Inv s) (hr : reading s = true) (hf : s.rxs = .sPrefix) (b : Byte) : Inv (takePrefix b s) := by
  obtain ⟨hb, hp⟩ := (reading_iff s).mp hr
  have hl : s.rxlen = 0 := by simpa [FieldOk, hf] using h.field hp
  unfold Machine.takePrefix
  split
  · exact { h with field := fun _ => ⟨hl, Nat.zero_lt_two⟩ }
  · exact h.noFrame hb

theorem Inv.takeHeader (h : Inv s) (hr : reading s = true) (hf : s.rxs = .sHdr) (b : Byte) : Inv (takeHeader b s) := by
  obtain ⟨-, hp⟩ := (reading_iff s).mp hr
  obtain ⟨hl, -⟩ : s.rxlen = 0 ∧ s.rxcnt < 2 := by simpa [FieldOk, hf] using h.field hp
  unfold Machine.takeHeader
  split
  · exact { h with field := fun _ => by simp [FieldOk, hf, hl] }
  · split
    · exact { h with field := fun _ => ⟨hl, Nat.zero_lt_two⟩ }
    · refine Sound.inv_raise ?_ _ _
      exact { h.sound with }

theorem Inv.takeSize (h : Inv s) (hr : reading s = true) (hf : s.rxs = .sSize) (b : Byte) : Inv (takeSize b s) := by
  obtain ⟨-, hp⟩ := (reading_iff s).mp hr
  obtain ⟨hl, -⟩ : s.rxlen = 0 ∧ s.rxcnt < 2 := by simpa [FieldOk, hf] using h.field hp
  unfold Machine.takeSize
  dsimp only
  split
  · rename_i hc
    exact { h with field := fun _ => by simp [FieldOk, hf, hl, hc] }
  · split
    · refine Sound.inv_raise ?_ _ _
      exact { h.sound with }
    · split
      · exact { h with field := fun _ => Nat.zero_lt_two }
      · refine { h with field := fun _ => ⟨by simp [hl], ?_⟩ }
        show 0 < (shiftIn s.rxsize b).toNat - 6
        omega

/-- The byte stored is the one RXLEN now counts. -/
theorem Inv.takePayload (h : Inv s) (hr : reading s = true) (hf : s.rxs = .sPayload) (b : Byte) : Inv (takePayload b s) := by
  obtain ⟨-, hp⟩ := (reading_iff s).mp hr
  obtain ⟨hl, hc⟩ : s.rxlen.toNat = s.rxcnt ∧ s.rxcnt < s.rxsize.toNat - 6 := by simpa [FieldOk, hf] using h.field hp
  have hz := s.rxsize.isLt
  have hlen : (BitVec.ofNat 16 (s.rxcnt + 1)).toNat = s.rxcnt + 1 := by
    rw [BitVec.toNat_ofNat, Nat.mod_eq_of_lt]
    omega
  have hwf : (s.rxbuf.write s.rxcnt b).wf := Memory.wf_write _ _ _ h.rxbuf_wf (by unfold bufSize; omega)
  have hlisted : ∀ k, k < (BitVec.ofNat 16 (s.rxcnt + 1)).toNat → (s.rxbuf.write s.rxcnt b).read k ≠ none := by
    intro k hk
    rw [Memory.read_write]
    split
    · simp
    · exact h.rx_listed k (by omega)
  unfold Machine.takePayload
  dsimp only
  split
  · exact { h with
      field := fun _ => Nat.zero_lt_two
      rx_listed := hlisted
      rxbuf_wf := hwf }
  · refine { h with
      field := fun _ => ?_
      rx_listed := hlisted
      rxbuf_wf := hwf }
    simp only [FieldOk, hf, hlen, true_and]
    omega

theorem Inv.takeChk (h : Inv s) (hf : s.rxs = .sChk) (b : Byte) : Inv (takeChk b s) := by
  unfold Machine.takeChk
  dsimp only
  split
  · rename_i hc
    exact { h with field := fun _ => by simp [FieldOk, hf, hc] }
  · exact { h with field := fun _ => trivial }

theorem Inv.takeSuffix (h : Inv s) (hr : reading s = true) (b : Byte) : Inv (takeSuffix b s) := by
  obtain ⟨hb, hp⟩ := (reading_iff s).mp hr
  have ho : s.op ≠ .openPort := fun ho => by simpa [hp] using h.phase_opening.mpr ho
  unfold Machine.takeSuffix
  dsimp only
  split
  · refine Sound.inv_raise ?_ _ _
    exact { h.sound with }
  · split
    · refine Sound.inv_raise ?_ _ _
      exact { h.sound with }
    · exact { h with
        phase_idle := by simp [hb]
        phase_opening := by simp [ho]
        phase_probe := by simp
        phase_tx := by simp
        field := by simp }

theorem Inv.takeByte (h : Inv s) (hr : reading s = true) (b : Byte) : Inv (takeByte b s) := by
  unfold Machine.takeByte
  split
  · rename_i hf; exact h.takePrefix hr hf b
  · rename_i hf; exact h.takeHeader hr hf b
  · rename_i hf; exact h.takeSize hr hf b
  · rename_i hf; exact h.takePayload hr hf b
  · rename_i hf; exact h.takeChk hf b
  · exact h.takeSuffix hr b

theorem Inv.takeTimeout (h : Inv s) (hr : reading s = true) : Inv (takeTimeout s) := by
  unfold Machine.takeTimeout
  split
  · exact h.noFrame ((reading_iff s).mp hr).1
  · exact h.sound.inv_raise _ _

theorem Inv.drain (h : Inv s) (n : Nat) : Inv (drain n s) :=
  drain_induction Inv
    (fun s b r h _ hr => (h.environment r s.inbox s.fresh).takeByte hr b) n s h

/-! ### The end of an exchange -/

/-- IDENTIFY runs on an open link, so the session it creates is on one. -/
theorem Inv.identified (h : Inv s) (hb : s.busy = true) (ho : s.op = .identify) (p : List Byte) : Inv (identified p s) := by
  rcases identified_cases p s with hi | hi | ⟨name, size, hi⟩ <;> rw [hi]
  · exact h.sound.inv_raise _ _
  · exact h.sound.inv_raise _ _
  · obtain ⟨he, -, hr⟩ := h.clear_of_busy hb
    have hopen : s.opened = true := (h.link hb).mpr (by simp [ho])
    exact Sound.inv_complete { h.sound with session_opened := fun _ => hopen } he hr

/-- A payload that RXLEN counts is in RXBUF, so the end of an exchange always answers. -/
theorem Inv.finish (h : Inv s) (hb : s.busy = true) : ∃ t, finish s = .next t ∧ Inv t := by
  obtain ⟨bs, hbs⟩ := Memory.readRange_isSome s.rxbuf 0 s.rxlen.toNat (by simpa using h.rx_listed)
  rcases finish_cases s _ rfl with ⟨hn, -⟩ | ⟨p, -, ⟨ho, hf⟩ | ⟨-, -, hf⟩ | ⟨e, -, -, hf⟩⟩
  · simp [hbs] at hn
  · exact ⟨_, hf, h.identified hb ho p⟩
  · exact ⟨_, hf, h.complete hb⟩
  · refine ⟨_, hf, ?_⟩
    rcases checkReply_cases p e s with hc | ⟨d, info, hc⟩ <;> rw [hc]
    · exact h.complete hb
    · exact h.sound.inv_raise _ _

theorem Inv.settle (h : Inv s) : ∃ t, settle s = .next t ∧ Inv t := by
  unfold Machine.settle
  split
  · rename_i hbp
    rw [Bool.and_eq_true] at hbp
    exact h.finish hbp.1
  · exact ⟨_, rfl, h⟩

theorem Inv.arrive (h : Inv s) (bytes : List Byte) : ∃ t, arrive bytes s = .next t ∧ Inv t := by
  rcases arrive_cases bytes s with ⟨-, ha⟩ | ⟨-, ha⟩ <;> rw [ha]
  · exact ⟨_, rfl, h⟩
  · exact ((h.environment _ s.inbox s.fresh).drain _).settle

/-! ### A step -/

theorem Inv.blockOutcome {o : Host.Outcome State Fault Refusal} (h : Inv s) (ho : BlockOutcome s o) :
    ∃ t, o = .next t ∧ Inv t := by
  cases ho with
  | same => exact ⟨_, rfl, h⟩
  | answered hb hp ok n => exact ⟨_, rfl, (h.environment s.rxq s.inbox n).openAnswered hb ok⟩
  | synch hb hp hc =>
    have hs : Inv { emit [.write synchByte] s with counted := false } := { h with }
    exact ⟨_, rfl, hs.startDecode hb (.inl hp) false⟩
  | iteration hb hp hc => exact ⟨_, rfl, h.nextIteration⟩
  | sendByte hb hp hl => exact ⟨_, rfl, h.sendByte hb hp⟩
  | sendFrame hb hp hl => exact ⟨_, rfl, h.sendFrame hb hp _ _⟩
  | tooLong hb hp hl => exact absurd (h.phase_tx hp).2.1 hl
  | byte hr b q n => exact ⟨_, rfl, (h.environment q s.inbox n).takeByte hr b⟩
  | timeout hr n => exact ⟨_, rfl, (h.environment s.rxq s.inbox n).takeTimeout hr⟩
  | finish hb hp o hf =>
    obtain ⟨t, ht, hi⟩ := h.finish hb
    exact ⟨t, hf.symm.trans ht, hi⟩

/-- A step from a state that meets the invariant answers one that meets it, or stops on an error of the host. -/
theorem Inv.stepOutcome {o : Host.Outcome State Fault Refusal} (h : Inv s) (ho : StepOutcome s o) :
    (∃ t, o = .next t ∧ Inv t) ∨ o = .fault .txUnwritten ∨ o = .fault .noSuchByte := by
  have hr : ∀ r, Inv { s with inbox := r } := fun r => h.environment s.rxq r s.fresh
  cases ho with
  | alone hi o hb => exact .inl (h.blockOutcome hb)
  | tick r hi o hb => exact .inl ((hr r).blockOutcome hb)
  | cmd v r hi o hc => exact ((hr r).cmd hc).imp_right .inl
  | register k v r hk hi => exact .inl ⟨_, rfl, (hr r).writeReg k v⟩
  | load k b r hi o ho => exact ho ▸ ((hr r).loadByte k b).imp_right .inr
  | receive bytes r hi o ho => exact ho ▸ .inl ((hr r).arrive bytes)
  | timeout r hi hread => exact .inl ⟨_, rfl, (hr r).takeTimeout hread⟩
  | ignored e r hi => exact .inl ⟨_, rfl, hr r⟩
  | answered ok r hi hb hp => exact .inl ⟨_, rfl, (hr r).openAnswered hb ok⟩
  | reset r hi => exact .inl ⟨_, rfl, inv_hwReset _⟩

end

/-- Settles O46, by the outcomes of a step. -/
theorem everyStepKeepsTheInvariant : Obligations.EveryStepKeepsTheInvariant := by
  unfold Obligations.EveryStepKeepsTheInvariant
  intro s t h hs
  rcases h.stepOutcome (step_outcome s) with ⟨u, hu, hi⟩ | hu | hu <;> rw [hs] at hu <;> cases hu
  exact hi

/-- Settles O51: of the faults the model has, two need a state the invariant excludes. -/
theorem onlyHostErrorsStopTheBlock : Obligations.OnlyHostErrorsStopTheBlock := by
  unfold Obligations.OnlyHostErrorsStopTheBlock
  intro s r h hs
  rcases h.stepOutcome (step_outcome s) with ⟨u, hu, -⟩ | hu | hu <;> rw [hs] at hu <;> cases hu
  · exact .inl rfl
  · exact .inr rfl

/-- Settles O47: after reset nothing is in progress, nothing is recorded and the buffers are empty. -/
theorem resetMeetsTheInvariant : Obligations.ResetMeetsTheInvariant := by
  unfold Obligations.ResetMeetsTheInvariant
  have hs : Sound State.reset := ⟨nofun, nofun, reset_buffers_wf.1, reset_buffers_wf.2⟩
  exact hs.inv_of_idle rfl rfl rfl nofun (fun _ => ⟨rfl, rfl⟩) nofun

end Sys2Proof.Machine
end

section
/-!
What a step leaves alone. An operation in progress moves only the sequencer, the codec and the transport side; the flags, ERR, the
operands and the session change where an operation is accepted or ends. The statements about who may write a register follow.
-/

namespace Sys2Proof.Machine

/-- The state without what an operation in progress moves: the sequencer position, the codec, RXBUF, ITER, the transport side and
the outside world. -/
def hostView (s : State) : State :=
  { s with
    tmoLong := false
    rxlen := 0
    iter := 0
    phase := .idle
    txi := 0
    rxs := .sPrefix
    rxcnt := 0
    txacc := 0
    rxacc := 0
    rxhdr0 := 0
    rxhdr1 := 0
    rxsize := 0
    rxchk := 0
    rxsuf := 0
    rxbuf := []
    rxq := []
    counted := false
    out := []
    inbox := []
    fresh := 0 }

/-- A field that the host's view keeps is the same in states with the same view. -/
theorem eq_of_hostView {α : Type} (f : State → α) {u s : State} (h : hostView u = hostView s)
    (hf : ∀ t, f (hostView t) = f t := by intro; rfl) : f u = f s := by
  rw [← hf u, h, hf s]

/-- What the sequencer and the receiver can answer: the operation goes on, fails, completes, or creates the session. -/
inductive Exchange (s : State) : Host.Outcome State Fault Refusal → Prop
  | going (u : State) (h : hostView u = hostView s) (hq : s.busy = false → u.out = s.out) : Exchange s (.next u)
  | failed (f : Failure) (info : W16) (u : State) (h : hostView u = hostView s) (hb : s.busy = true) :
      Exchange s (.next (raise f info u))
  | completed (u : State) (h : hostView u = hostView s) (hb : s.busy = true) : Exchange s (.next (complete u))
  | identified (u : State) (h : hostView u = hostView s) (hb : s.busy = true) (ho : s.op = .identify)
      (p : List Byte) (name : String) (size : W32) : Exchange s (.next (complete { u with
        fosc := identFosc p, chipId := identId p, chipVer := identVer p, flashSz := size, chipName := name
        session := true }))
  | stopped (r : Fault) : Exchange s (.fault r)

/-- An exchange may be told from any state the operation has moved from. -/
theorem Exchange.of_hostView {s u : State} {o : Host.Outcome State Fault Refusal} (h : Exchange u o)
    (hu : hostView u = hostView s) (hq : s.busy = false → u.out = s.out) : Exchange s o := by
  have hb : u.busy = s.busy := eq_of_hostView State.busy hu
  cases h with
  | going w hw hqw => exact .going w (hw.trans hu) fun h => (hqw (hb.trans h)).trans (hq h)
  | failed f info w hw hbw => exact .failed f info w (hw.trans hu) (hb ▸ hbw)
  | completed w hw hbw => exact .completed w (hw.trans hu) (hb ▸ hbw)
  | identified w hw hbw ho p name size =>
    exact .identified w (hw.trans hu) (hb ▸ hbw) ((eq_of_hostView State.op hu).symm.trans ho) p name size
  | stopped r => exact .stopped r

section
variable {s : State}

/-- While BUSY = 1, a move of the sequencer or the codec. -/
theorem Exchange.moved (hb : s.busy = true) {u : State} (h : hostView u = hostView s) : Exchange s (.next u) :=
  .going u h (by simp [hb])

theorem noFrame_exchange (hb : s.busy = true) : Exchange s (.next (noFrame s)) := by
  unfold noFrame
  split
  · exact .moved hb rfl
  · exact .failed _ _ s rfl hb

theorem takeByte_exchange (hb : s.busy = true) (b : Byte) : Exchange s (.next (takeByte b s)) := by
  unfold takeByte
  split
  · unfold takePrefix
    split
    · exact .moved hb rfl
    · exact noFrame_exchange hb
  · unfold takeHeader
    split
    · exact .moved hb rfl
    · split
      · exact .moved hb rfl
      · exact .failed _ _ { s with rxhdr1 := b, rxcnt := 2 } rfl hb
  · unfold takeSize
    dsimp only
    split
    · exact .moved hb rfl
    · split
      · exact .failed _ _
          { s with rxsize := shiftIn s.rxsize b, rxacc := addByte s.rxacc b, rxcnt := s.rxcnt + 1 } rfl hb
      · split
        · exact .moved hb rfl
        · exact .moved hb rfl
  · unfold takePayload
    dsimp only
    split
    · exact .moved hb rfl
    · exact .moved hb rfl
  · unfold takeChk
    dsimp only
    split
    · exact .moved hb rfl
    · exact .moved hb rfl
  · unfold takeSuffix
    dsimp only
    split
    · exact .failed _ _ { s with rxsuf := b } rfl hb
    · split
      · exact .failed _ _ { s with rxsuf := b } rfl hb
      · exact .moved hb rfl

theorem takeTimeout_exchange (hb : s.busy = true) : Exchange s (.next (takeTimeout s)) := by
  unfold takeTimeout
  split
  · exact noFrame_exchange hb
  · exact .failed _ _ s rfl hb

/-- Bytes are taken only while a read is pending, so never after a failure or the end of the operation. -/
theorem drain_exchange (n : Nat) (s : State) : Exchange s (.next (drain n s)) := by
  refine drain_induction (fun t => Exchange s (.next t)) (fun t b r ht _ hr => ?_) n s (.going s rfl fun _ => rfl)
  have hb : t.busy = true := ((reading_iff t).mp hr).1
  cases ht with
  | going _ h hq =>
    exact (takeByte_exchange (s := { t with rxq := r }) hb b).of_hostView h hq
  | failed f info u => simp [reading] at hr
  | completed u => simp [reading] at hr
  | identified u => simp [reading] at hr

theorem finish_exchange (hb : s.busy = true) : Exchange s (finish s) := by
  rcases finish_cases s _ rfl with ⟨-, hf⟩ | ⟨p, -, ⟨ho, hf⟩ | ⟨-, -, hf⟩ | ⟨e, -, -, hf⟩⟩ <;> rw [hf]
  · exact .stopped _
  · rcases identified_cases p s with hi | hi | ⟨name, size, hi⟩ <;> rw [hi]
    · exact .failed _ _ s rfl hb
    · exact .failed _ _ s rfl hb
    · exact .identified s rfl hb ho p name size
  · exact .completed s rfl hb
  · rcases checkReply_cases p e s with hc | ⟨d, info, hc⟩ <;> rw [hc]
    · exact .completed s rfl hb
    · exact .failed _ _ s rfl hb

/-- If a drained state's operation is at its end, its exchange ends in the same step. -/
theorem settle_exchange {t : State} (h : Exchange s (.next t)) : Exchange s (settle t) := by
  unfold settle
  split
  · rename_i hbp
    have hb : t.busy = true := (Bool.and_eq_true _ _ ▸ hbp).1
    cases h with
    | going _ ht hq => exact (finish_exchange hb).of_hostView ht hq
    | failed f info u => simp at hb
    | completed u => simp at hb
    | identified u => simp at hb
  · exact h

theorem arrive_exchange (bytes : List Byte) (s : State) : Exchange s (arrive bytes s) := by
  rcases arrive_cases bytes s with ⟨-, ha⟩ | ⟨-, ha⟩ <;> rw [ha]
  · exact .going s rfl fun _ => rfl
  · exact settle_exchange ((drain_exchange _ { s with rxq := s.rxq ++ bytes }).of_hostView rfl fun _ => rfl)

end

/-! ### A step -/

/-- What a step answers, seen from the host. -/
inductive StepEffect (s : State) : Host.Outcome State Fault Refusal → Prop
  | exchange (o : Host.Outcome State Fault Refusal) (h : Exchange s o) : StepEffect s o
  | opened (u : State) (h : hostView u = hostView s) (hb : s.busy = true) (hp : s.phase = .opening) :
      StepEffect s (.next (openAnswered true u))
  | command (v : W32) (r : List Event) (hi : s.inbox = .writeReg .cmd v :: r) (o : Host.Outcome State Fault Refusal)
      (hc : CmdOutcome (v.setWidth 8) { s with inbox := r } o) : StepEffect s o
  | register (k : HReg) (v : W32) (r : List Event) (hk : k ≠ .cmd) (hi : s.inbox = .writeReg k v :: r) :
      StepEffect s (.next (writeReg k v { s with inbox := r }))
  | load (k : Nat) (b : Byte) (r : List Event) (hi : s.inbox = .load k b :: r)
      (o : Host.Outcome State Fault Refusal) (ho : loadByte k b { s with inbox := r } = o) : StepEffect s o
  | reset (r : List Event) (hi : s.inbox = .reset :: r) : StepEffect s (.next (hwReset { s with inbox := r }))

theorem StepEffect.answered {s u : State} (h : hostView u = hostView s) (hb : s.busy = true) (hp : s.phase = .opening)
    (ok : Bool) : StepEffect s (.next (openAnswered ok u)) := by
  cases ok with
  | true => exact .opened u h hb hp
  | false => exact .exchange _ (.failed .transportUnavailable 0 u h hb)

theorem sendByte_hostView (s : State) : hostView (sendByte s) = hostView s := by
  unfold sendByte
  dsimp only
  split <;> rfl

theorem BlockOutcome.stepEffect {s u : State} {o : Host.Outcome State Fault Refusal} (h : BlockOutcome u o)
    (hu : u = { s with inbox := u.inbox }) : StepEffect s o := by
  have hv : hostView u = hostView s := by rw [hu]; rfl
  have hb : u.busy = s.busy := eq_of_hostView State.busy hv
  have hq : u.out = s.out := by rw [hu]
  have lift : ∀ {o}, Exchange u o → StepEffect s o := fun h => .exchange _ (h.of_hostView hv fun _ => hq)
  cases h with
  | same => exact lift (.going u rfl fun _ => rfl)
  | answered hb' hp ok n => exact .answered (u := { u with fresh := n }) hv (hb ▸ hb') (by rw [hu] at hp; exact hp) ok
  | synch hb' => exact lift (.moved hb' rfl)
  | iteration hb' =>
    unfold nextIteration
    split
    · exact lift (.moved hb' rfl)
    · exact lift (.failed _ _ u rfl hb')
  | sendByte hb' => exact lift (.moved hb' (sendByte_hostView u))
  | sendFrame hb' => exact lift (.moved hb' rfl)
  | tooLong => exact lift (.stopped _)
  | byte hr b q n =>
    have hb' : u.busy = true := ((reading_iff u).mp hr).1
    exact lift ((takeByte_exchange (s := { u with rxq := q, fresh := n }) hb' b).of_hostView rfl fun _ => rfl)
  | timeout hr n =>
    have hb' : u.busy = true := ((reading_iff u).mp hr).1
    exact lift ((takeTimeout_exchange (s := { u with fresh := n }) hb').of_hostView rfl fun _ => rfl)
  | finish hb' hp o hf => exact lift (hf ▸ finish_exchange hb')

/-- Everything a step can do, seen from the host. -/
theorem step_effect (s : State) : StepEffect s (step s) := by
  have h := step_outcome s
  generalize step s = o at h
  cases h with
  | alone hi o hb => exact hb.stepEffect rfl
  | tick r hi o hb => exact hb.stepEffect rfl
  | cmd v r hi o hc => exact .command v r hi o hc
  | register k v r hk hi => exact .register k v r hk hi
  | load k b r hi o ho => exact .load k b r hi o ho
  | receive bytes r hi o ho =>
    exact ho ▸ .exchange _ ((arrive_exchange bytes { s with inbox := r }).of_hostView rfl fun _ => rfl)
  | timeout r hi hr =>
    have hb : s.busy = true := ((reading_iff s).mp hr).1
    exact .exchange _ ((takeTimeout_exchange (s := { s with inbox := r }) hb).of_hostView rfl fun _ => rfl)
  | ignored e r hi => exact .exchange _ (.going _ rfl fun _ => rfl)
  | answered ok r hi hb hp => exact .answered (s := s) (u := { s with inbox := r }) rfl hb hp ok
  | reset r hi => exact .reset r hi

/-! ### Who writes the session registers, the operands and the rate -/

/-- The registers of R25 to R29. -/
def sessionRegisters (s : State) : W32 × W16 × W24 × W32 × String := (s.fosc, s.chipId, s.chipVer, s.flashSz, s.chipName)

/-- The operand registers and TXBUF. -/
def operands (s : State) : W32 × W32 × W16 × W16 × W16 × Memory :=
  (s.baudInit, s.baudTgt, s.wait, s.addr, s.txlen, s.txbuf)

@[simp] theorem sessionRegisters_raise (f : Failure) (info : W16) (s : State) :
    sessionRegisters (raise f info s) = sessionRegisters s := by simp [sessionRegisters]

@[simp] theorem operands_raise (f : Failure) (info : W16) (s : State) : operands (raise f info s) = operands s := by
  simp [operands]

/-- A CMD write leaves the session registers and the operands as they are. -/
theorem CmdOutcome.registers {v : Byte} {s t : State} (h : CmdOutcome v s (.next t)) :
    sessionRegisters t = sessionRegisters s ∧ operands t = operands s := by
  cases h with
  | abort => exact ⟨rfl, rfl⟩
  | dropped => exact ⟨rfl, rfl⟩
  | clrerr => exact ⟨rfl, rfl⟩
  | accepted hb he o ha =>
    cases ha with
    | refused d info => exact ⟨sessionRegisters_raise _ _ _, operands_raise _ _ _⟩
    | capacity => exact ⟨sessionRegisters_raise _ _ _, operands_raise _ _ _⟩
    | _ => exact ⟨rfl, rfl⟩

/-- A CMD write changes BAUD_CUR only where CHECKBAUD is accepted (R216). -/
theorem CmdOutcome.baudCur {v : Byte} {s t : State} (h : CmdOutcome v s (.next t)) :
    t.baudCur = s.baudCur ∨ (t.op = .checkbaud ∧ s.busy = false ∧ t.baudCur = s.baudTgt) := by
  cases h with
  | abort => exact .inl rfl
  | dropped => exact .inl rfl
  | clrerr => exact .inl rfl
  | accepted hb he o ha =>
    cases ha with
    | refused d info => exact .inl (raise_baudCur _ _ _)
    | capacity => exact .inl (raise_baudCur _ _ _)
    | checkbaud => exact .inr ⟨rfl, hb, rfl⟩
    | _ => exact .inl rfl

/-- A host write to a register changes only operands, and only between operations. -/
theorem writeReg_changes (k : HReg) (v : W32) (s : State) :
    writeReg k v s = { s with
      baudInit := (writeReg k v s).baudInit, baudTgt := (writeReg k v s).baudTgt, wait := (writeReg k v s).wait
      addr := (writeReg k v s).addr, txlen := (writeReg k v s).txlen } := by
  unfold writeReg
  split
  · rfl
  · cases k <;> rfl

theorem writeReg_busy (k : HReg) (v : W32) (s : State) (hb : s.busy = true) : writeReg k v s = s := if_pos hb

/-- A host write to TXBUF that answers changes only TXBUF, and only between operations. -/
theorem loadByte_next {k : Nat} {b : Byte} {s t : State} (h : loadByte k b s = .next t) :
    t = { s with txbuf := t.txbuf } ∧ (s.busy = true → t = s) := by
  unfold loadByte at h
  split at h
  · cases h
    exact ⟨rfl, fun _ => rfl⟩
  · rename_i hb
    split at h
    · cases h
      exact ⟨rfl, fun h => absurd h hb⟩
    · cases h

/-- Settles O52: of everything a step can do only IDENTIFY's success writes a session register. -/
theorem onlyIdentifyWritesTheSession : Obligations.OnlyIdentifyWritesTheSession := by
  unfold Obligations.OnlyIdentifyWritesTheSession
  intro s t hs
  have kept : sessionRegisters t = sessionRegisters s →
      t.fosc = s.fosc ∧ t.chipId = s.chipId ∧ t.chipVer = s.chipVer ∧ t.flashSz = s.flashSz ∧ t.chipName = s.chipName := by
    simp [sessionRegisters]
  have he := step_effect s
  rw [hs] at he
  cases he with
  | exchange o h =>
    cases h with
    | going _ hu => exact .inl (kept (eq_of_hostView sessionRegisters hu))
    | failed f info u hu =>
      exact .inl (kept ((sessionRegisters_raise f info u).trans (eq_of_hostView sessionRegisters hu)))
    | completed u hu => exact .inl (kept (eq_of_hostView sessionRegisters hu :))
    | identified u hu hb ho p name size => exact .inr (.inl ⟨ho, rfl, rfl, rfl⟩)
  | opened u hu => exact .inl (kept (eq_of_hostView sessionRegisters hu :))
  | command v r hi o hc => exact .inl (kept hc.registers.1)
  | register k v r hk hi =>
    refine .inl (kept ?_)
    rw [writeReg_changes]
    rfl
  | load k b r hi o ho =>
    refine .inl (kept ?_)
    rw [(loadByte_next ho).1]
    rfl
  | reset r hi => exact .inr (.inr (by rw [hi]; rfl))

/-- Settles O53: the transport's rate is set where OPEN ends and where CHECKBAUD is accepted, and nowhere else. -/
theorem onlyOpenAndCheckbaudSwitchTheRate : Obligations.OnlyOpenAndCheckbaudSwitchTheRate := by
  unfold Obligations.OnlyOpenAndCheckbaudSwitchTheRate
  intro s t hs
  have he := step_effect s
  rw [hs] at he
  cases he with
  | exchange o h =>
    cases h with
    | going _ hu => exact .inl (eq_of_hostView State.baudCur hu)
    | failed f info u hu => exact .inl ((raise_baudCur f info u).trans (eq_of_hostView State.baudCur hu))
    | completed u hu => exact .inl (eq_of_hostView State.baudCur hu :)
    | identified u hu => exact .inl (eq_of_hostView State.baudCur hu :)
  | opened u hu hb hp => exact .inr (.inl ⟨hp, rfl, (eq_of_hostView State.baudInit hu :)⟩)
  | command v r hi o hc => exact hc.baudCur.imp_right fun h => .inr (.inl h)
  | register k v r hk hi =>
    refine .inl ?_
    rw [writeReg_changes]
  | load k b r hi o ho =>
    refine .inl ?_
    rw [(loadByte_next ho).1]
  | reset r hi => exact .inr (.inr (.inr (by rw [hi]; rfl)))

/-- Settles O54: an operand changes only by the host's own write, which is ignored while BUSY = 1, and by reset. -/
theorem operandsBelongToTheHost : Obligations.OperandsBelongToTheHost := by
  unfold Obligations.OperandsBelongToTheHost
  intro s t hs
  have kept : operands t = operands s →
      t.baudInit = s.baudInit ∧ t.baudTgt = s.baudTgt ∧ t.wait = s.wait ∧ t.addr = s.addr ∧ t.txlen = s.txlen
        ∧ t.txbuf = s.txbuf := by
    simp [operands]
  have he := step_effect s
  rw [hs] at he
  cases he with
  | exchange o h =>
    cases h with
    | going _ hu => exact .inl (kept (eq_of_hostView operands hu))
    | failed f info u hu => exact .inl (kept ((operands_raise f info u).trans (eq_of_hostView operands hu)))
    | completed u hu => exact .inl (kept (eq_of_hostView operands hu :))
    | identified u hu => exact .inl (kept (eq_of_hostView operands hu :))
  | opened u hu => exact .inl (kept (eq_of_hostView operands hu :))
  | command v r hi o hc => exact .inl (kept hc.registers.2)
  | register k v r hk hi =>
    by_cases hb : s.busy = true
    · exact .inl (kept (by rw [writeReg_busy k v { s with inbox := r } hb]; rfl))
    · exact .inr (.inl ⟨by simpa using hb, _, r, hi, .inl ⟨k, v, hk, rfl⟩⟩)
  | load k b r hi o ho =>
    by_cases hb : s.busy = true
    · exact .inl (kept (by rw [(loadByte_next ho).2 hb]; rfl))
    · exact .inr (.inl ⟨by simpa using hb, _, r, hi, .inr ⟨k, b, rfl⟩⟩)
  | reset r hi => exact .inr (.inr (by rw [hi]; rfl))

/-! ### Failures and the life cycle -/

/-- Settles O55: while ERR = 1 nothing is in progress, and a CMD write other than CLRERR is dropped. -/
theorem failureIsAbsorbing : Obligations.FailureIsAbsorbing := by
  unfold Obligations.FailureIsAbsorbing
  intro s t hinv (herr : s.err = true) hs
  have hb : s.busy = false := by
    by_contra hb
    simp [(hinv.busy_clear (by simpa using hb)).1] at herr
  have idle : ∀ {p : Prop}, s.busy = true → p := fun h => by simp [hb] at h
  have he := step_effect s
  rw [hs] at he
  cases he with
  | exchange o h =>
    cases h with
    | going _ hu hq =>
      exact .inl ⟨(eq_of_hostView State.err hu).trans herr, eq_of_hostView State.errReg hu,
        eq_of_hostView State.errInfo hu, (eq_of_hostView State.busy hu).trans hb, by rw [hq hb]⟩
    | failed f info u hu hbusy => exact idle hbusy
    | completed u hu hbusy => exact idle hbusy
    | identified u hu hbusy => exact idle hbusy
  | opened u hu hbusy => exact idle hbusy
  | command v r hi o hc =>
    cases hc with
    | abort hbusy => exact idle hbusy
    | dropped => exact .inl ⟨herr, rfl, rfl, hb, rfl⟩
    | clrerr hidle hv => exact .inr (.inl ⟨v, r, hi, hv⟩)
    | accepted hidle hclear => simp [herr] at hclear
  | register k v r hk hi =>
    rw [writeReg_changes]
    exact .inl ⟨herr, rfl, rfl, hb, rfl⟩
  | load k b r hi o ho =>
    rw [(loadByte_next ho).1]
    exact .inl ⟨herr, rfl, rfl, hb, rfl⟩
  | reset r hi => exact .inr (.inr (by rw [hi]; rfl))

/-- KIND in ERR tells the failures that close the link from those that leave it (R290, R301 to R303). -/
theorem kind_of_code (f : Failure) : (f.code &&& 0x0F = 2 ∨ f.code &&& 0x0F = 8) ↔ f.fatal = false := by
  cases f with
  | framing d => cases d <;> decide
  | rejected d => cases d <;> decide
  | refused d => cases d <;> decide
  | _ => decide

theorem stage_of_hostView {u s : State} (h : hostView u = hostView s) : stage u = stage s := eq_of_hostView stage h

/-- A failure closes the link if it is fatal and leaves the stage if it is not. -/
theorem stage_raise (f : Failure) (info : W16) (s : State) :
    stage (raise f info s) = if f.fatal = true then .closed else stage s := by
  cases h : f.fatal <;> simp [stage, h]

/-- The life cycle of R270 for one step. -/
def LifeCycleStep (s t : State) : Prop :=
  (stage t = .session → stage s = .session ∨ (stage s = .opened ∧ s.op = .identify ∧ t.done = true))
  ∧ (stage t = .opened → stage s = .opened ∨ (stage s = .closed ∧ s.op = .openPort ∧ t.done = true))
  ∧ (stage t = .closed → stage s = .closed
      ∨ (∃ v rest, s.inbox = .writeReg .cmd v :: rest ∧ v.setWidth 8 = (0x02 : Byte) ∧ t.done = true ∧ t.busy = false)
      ∨ (s.err = false ∧ t.err = true ∧ t.errReg &&& 0x0F ≠ 2 ∧ t.errReg &&& 0x0F ≠ 8)
      ∨ s.inbox.head? = some .reset)
  ∧ (s.err = false → t.err = true →
      stage t = if t.errReg &&& 0x0F = 2 ∨ t.errReg &&& 0x0F = 8 then stage s else .closed)

/-- The stage stays and no failure arises. -/
theorem LifeCycleStep.same {s t : State} (h : stage t = stage s) (he : t.err = true → s.err = true) :
    LifeCycleStep s t :=
  ⟨fun ht => .inl (h.symm.trans ht), fun ht => .inl (h.symm.trans ht), fun ht => .inl (h.symm.trans ht),
    fun hs ht => by simp [he ht] at hs⟩

/-- A failure arises. -/
theorem LifeCycleStep.failed {s u : State} (h : stage u = stage s) (he : s.err = false) (f : Failure) (info : W16) :
    LifeCycleStep s (raise f info u) := by
  have hk := kind_of_code f
  have hst := stage_raise f info u
  rw [h] at hst
  cases hf : f.fatal with
  | false =>
    rw [hf] at hst hk
    refine ⟨fun ht => .inl (hst.symm.trans ht), fun ht => .inl (hst.symm.trans ht), fun ht => .inl (hst.symm.trans ht),
      fun _ _ => ?_⟩
    rw [raise_errReg, if_pos (hk.mpr rfl)]
    exact hst
  | true =>
    rw [hf, if_pos rfl] at hst
    have hne : ¬(f.code &&& 0x0F = 2 ∨ f.code &&& 0x0F = 8) := by rw [hk, hf]; simp
    refine ⟨by simp [hst], by simp [hst], fun _ => .inr (.inr (.inl ⟨he, raise_err _ _ _, ?_⟩)), fun _ _ => ?_⟩
    · rw [raise_errReg]
      exact not_or.mp hne
    · rw [raise_errReg, if_neg hne]
      exact hst

/-- A CMD write of 0x02 ends on the closed stage. -/
theorem LifeCycleStep.closed {s t : State} {v : W32} {rest : List Event} (hi : s.inbox = .writeReg .cmd v :: rest)
    (hv : v.setWidth 8 = (0x02 : Byte)) (ht : stage t = .closed) (hd : t.done = true) (hb : t.busy = false)
    (he : t.err = true → s.err = true) : LifeCycleStep s t :=
  ⟨by simp [ht], by simp [ht], fun _ => .inr (.inl ⟨v, rest, hi, hv, hd, hb⟩), fun hs h => by simp [he h] at hs⟩

theorem LifeCycleStep.command {s t : State} {v : W32} {rest : List Event} (hi : s.inbox = .writeReg .cmd v :: rest)
    (h : CmdOutcome (v.setWidth 8) { s with inbox := rest } (.next t)) : LifeCycleStep s t := by
  cases h with
  | abort hb hv => exact .closed hi hv rfl rfl rfl id
  | dropped => exact .same rfl id
  | clrerr => exact .same rfl nofun
  | accepted hb he o ha =>
    cases ha with
    | refused d info => exact .failed (s := s) (u := { s with inbox := rest, done := false }) rfl he _ _
    | capacity => exact .failed (s := s) (u := { s with inbox := rest, done := false }) rfl he _ _
    | close hv => exact .closed hi hv rfl rfl hb id
    | clrerr => exact .same rfl nofun
    | _ => exact .same rfl id

/-- Settles O58: the stage changes where IDENTIFY or OPEN completes, at a CMD write of 0x02, at a fatal failure and at reset. -/
theorem stagesFollowTheLifeCycle : Obligations.StagesFollowTheLifeCycle := by
  unfold Obligations.StagesFollowTheLifeCycle
  intro s t hinv hs
  show LifeCycleStep s t
  have he := step_effect s
  rw [hs] at he
  cases he with
  | exchange o h =>
    cases h with
    | going _ hu => exact .same (stage_of_hostView hu) fun h => (eq_of_hostView State.err hu).symm.trans h
    | failed f info u hu hb => exact .failed (stage_of_hostView hu) (hinv.busy_clear hb).1 f info
    | completed u hu => exact .same (stage_of_hostView hu :) fun h => (eq_of_hostView State.err hu).symm.trans h
    | identified u hu hb ho p name size =>
      have hopen : stage s = .opened := by
        simp [stage, hinv.no_session ho, (hinv.link hb).mpr (by simp [ho])]
      have herr : u.err = false := (eq_of_hostView State.err hu).trans (hinv.busy_clear hb).1
      exact ⟨fun _ => .inr ⟨hopen, ho, rfl⟩, by simp [stage], by simp [stage], by simp [herr]⟩
  | opened u hu hb hp =>
    have ho : s.op = .openPort := hinv.phase_opening.mp hp
    have hclosed : s.opened = false := by simpa [ho] using hinv.link hb
    have hsession : s.session = false := by
      by_contra hne
      simp [hinv.session_opened (by simpa using hne)] at hclosed
    have husession : u.session = false := (eq_of_hostView State.session hu).trans hsession
    have herr : u.err = false := (eq_of_hostView State.err hu).trans (hinv.busy_clear hb).1
    have hst : stage (openAnswered true u) = .opened := by simp [stage, openAnswered, husession, tpSetBaud]
    exact ⟨by simp [hst], fun _ => .inr ⟨by simp [stage, hclosed, hsession], ho, rfl⟩, by simp [hst],
      fun _ ht => by simp [openAnswered, tpSetBaud, herr] at ht⟩
  | command v r hi o hc => exact .command hi hc
  | register k v r hk hi => exact .same (by rw [writeReg_changes]; rfl) fun h => by rw [writeReg_changes] at h; exact h
  | load k b r hi o ho =>
    have ht := (loadByte_next ho).1
    exact .same (by rw [ht]; rfl) fun h => by rw [ht] at h; exact h
  | reset r hi =>
    exact ⟨nofun, nofun, fun _ => .inr (.inr (.inr (by rw [hi]; rfl))), nofun⟩

end Sys2Proof.Machine
end

section
/-!
Single steps written out: data that is not sent, bytes that wait, host reads and writes, the fetch, and reset.
-/

namespace Sys2Proof.Machine

/-! ### Unwritten data -/

/-- A range with a byte that holds no value is not read. -/
theorem Memory.readRange_eq_none (m : Memory) (a n k : Nat) (hk : k < n) (h : m.read (a + k) = none) :
    m.readRange a n = none := by
  induction n generalizing a k with
  | zero => omega
  | succ n ih =>
    cases k with
    | zero =>
      rw [Nat.add_zero] at h
      simp [Memory.readRange, h]
    | succ k =>
      have := ih (a + 1) k (by omega) (by rwa [Nat.add_assoc, Nat.add_comm 1 k])
      simp [Memory.readRange, this]

theorem txData_eq_none {s : State} (h : ∃ k, k < s.txlen.toNat ∧ s.txbuf.read k = none) : txData s = none := by
  obtain ⟨k, hk, hn⟩ := h
  exact Memory.readRange_eq_none _ _ _ k hk (by rwa [Nat.zero_add])

/-- A CMD write between operations, with no failure recorded, runs the operation with DONE cleared (R260). -/
theorem onCmd_of_ready {s : State} (h : Ready s) (v : Byte) (run : State → Host.Outcome State Fault Refusal) :
    onCmd v run s = run { s with done := false } := by
  simp [onCmd, h.1, h.2]

theorem tooLong_eq_false {extra : Nat} {s : State} (h : s.txlen.toNat + extra ≤ 65529) : tooLong extra s = false :=
  decide_eq_false (Nat.not_lt_of_le h)

theorem exceedsCapacity_eq_false {s : State} (h : s.addr.toNat + s.txlen.toNat ≤ s.flashSz.toNat) :
    exceedsCapacity s = false :=
  decide_eq_false (Nat.not_lt_of_le h)

/-- Settles O25: with the preconditions met, the data decides. -/
theorem unwrittenDataIsNotSent : Obligations.UnwrittenDataIsNotSent := by
  unfold Obligations.UnwrittenDataIsNotSent
  intro s hready ho hk
  have hd : txData { s with done := false } = none := txData_eq_none hk
  refine ⟨fun hs hfit hlen => ?_, fun hlen => ?_⟩
  · have hc : exceedsCapacity { s with done := false } = false := exceedsCapacity_eq_false hfit
    have hl : tooLong 5 { s with done := false } = false := tooLong_eq_false (Nat.add_le_add_right hlen 5)
    show execWriteOp s = _
    rw [execWriteOp, onCmd_of_ready hready, if_neg (by simp [ho]), if_neg (by simp [hs]), if_neg (by simp [hc]),
      if_neg (by simp [hl]), hd]
  · have hl : tooLong 0 { s with done := false } = false := tooLong_eq_false hlen
    show execXfer s = _
    rw [execXfer, onCmd_of_ready hready, if_neg (by simp [ho]), if_neg (by simp [hl]), hd]

/-! ### Bytes that nothing reads -/

theorem step_receive (s : State) (bytes : List Byte) (rest : List Event) :
    step { s with inbox := .receive bytes :: rest } = arrive bytes { s with inbox := rest } :=
  step_event { s with inbox := .receive bytes :: rest } _ rest rfl (by simp)

/-- Where no port is held the bytes are lost. -/
theorem arrive_lost {s : State} (h : portHeld s = false) (bytes : List Byte) : arrive bytes s = .next s := by
  simp [arrive, h]

/-- On a held port, with no read pending and no frame complete, the bytes wait. -/
theorem arrive_waits {s : State} (h : portHeld s = true) (hr : s.phase ≠ .rx) (hf : s.phase ≠ .finish)
    (bytes : List Byte) : arrive bytes s = .next { s with rxq := s.rxq ++ bytes } := by
  have hd := drain_stop (s.rxq.length + bytes.length) { s with rxq := s.rxq ++ bytes } (by simp [reading, hr])
  rw [arrive, if_pos h, hd]
  simp [settle, hf]

/-- A port is held exactly while the link is open, except where TpOpen is pending. -/
theorem portHeld_of_not_opening {s : State} (h : s.phase ≠ .opening) : portHeld s = s.opened := by simp [portHeld, h]

/-- The abort of R264 leaves no port and nothing waiting. -/
theorem abort_rxq_nil {s : State} (h : s.opened = true) : (abort s).rxq = [] := by simp [abort, portHeld, h]

theorem exec_close_busy {s : State} (h : s.busy = true) : exec .close s = .next (abort s) := by
  show execClose s = _
  rw [execClose, onCmd, if_pos h, if_pos rfl]

/-- Settles O43: which port is held decides, and after an abort none is. -/
theorem unreadBytesWaitInOrder : Obligations.UnreadBytesWaitInOrder := by
  unfold Obligations.UnreadBytesWaitInOrder
  intro s bytes rest
  refine ⟨fun ho hr hf => ?_, fun ho hp => ?_, fun ho hp => ?_, fun ho hr => ?_⟩
  · exact (step_receive s bytes rest).trans
      (arrive_waits (s := { s with inbox := rest }) (by simp [portHeld, ho]) hr hf bytes)
  · rw [step_receive, arrive_lost]
    exact (portHeld_of_not_opening (s := { s with inbox := rest }) hp).trans ho
  · rw [step_receive]
    cases hh : portHeld { s with inbox := rest } with
    | false => exact ⟨s.rxq, .inl rfl, arrive_lost hh bytes⟩
    | true => exact ⟨s.rxq ++ bytes, .inr rfl, arrive_waits hh (by simp [hp]) (by simp [hp]) bytes⟩
  · have hb : s.busy = true := ((reading_iff s).mp hr).1
    have hclose : step { s with inbox := .writeReg .cmd 0x02 :: .receive bytes :: rest }
        = .next { abort s with inbox := .receive bytes :: rest } := by
      have hd : decodeCmd ((0x02 : W32).setWidth 8) = .close := by decide
      rw [step_cmd _ 0x02 (.receive bytes :: rest) rfl, hd]
      exact exec_close_busy (s := { s with inbox := .receive bytes :: rest }) hb
    have hlost : step { abort s with inbox := .receive bytes :: rest } = .next { abort s with inbox := rest } := by
      rw [step_receive, arrive_lost]
      rfl
    refine ⟨{ abort s with inbox := rest }, ?_, abort_rxq_nil ho, rfl, rfl, rfl, rfl, rfl⟩
    simp only [Host.Core.run, core, hclose, hlost]

/-! ### Host reads and writes -/

theorem step_writeReg (s : State) {r : HReg} (hr : r ≠ .cmd) (v : W32) (rest : List Event) :
    step { s with inbox := .writeReg r v :: rest } = .next (writeReg r v { s with inbox := rest }) :=
  step_event { s with inbox := .writeReg r v :: rest } _ rest rfl fun _ h => hr (Event.writeReg.inj h).1

/-- STATUS bit by bit (R23). -/
theorem readReg_status (s : State) : readReg .status s = some (BitVec.ofNat 32
    (s.busy.toNat + 2 * s.opened.toNat + 4 * s.session.toNat + 8 * s.done.toNat + 16 * s.err.toNat
      + 32 * s.tmoLong.toNat)) := by
  have bits : ∀ a b c d e f : Bool,
      (flagBit a 0 ||| flagBit b 1 ||| flagBit c 2 ||| flagBit d 3 ||| flagBit e 4 ||| flagBit f 5).setWidth 32
        = BitVec.ofNat 32 (a.toNat + 2 * b.toNat + 4 * c.toNat + 8 * d.toNat + 16 * e.toNat + 32 * f.toNat) := by
    decide
  exact congrArg some (bits _ _ _ _ _ _)

/-- A 16-bit register reads back the low half of what was written (R51). -/
theorem setWidth_setWidth_16 (v : W32) : (v.setWidth 16).setWidth 32 = v &&& 0xFFFF := by
  apply BitVec.eq_of_toNat_eq
  rw [BitVec.toNat_and]
  show _ = v.toNat &&& (2 ^ 16 - 1)
  rw [Nat.and_two_pow_sub_one_eq_mod]
  simp
  omega

/-- No register but the written one reads differently. -/
theorem readReg_writeReg_other {r r' : HReg} (h : r' ≠ r) (v : W32) (s : State) :
    readReg r' (writeReg r v s) = readReg r' s := by
  unfold writeReg
  split
  · rfl
  · cases r with
    | baudInit => cases r' with | baudInit => exact absurd rfl h | _ => rfl
    | baudTgt => cases r' with | baudTgt => exact absurd rfl h | _ => rfl
    | wait => cases r' with | wait => exact absurd rfl h | _ => rfl
    | addr => cases r' with | addr => exact absurd rfl h | _ => rfl
    | txlen => cases r' with | txlen => exact absurd rfl h | _ => rfl
    | _ => rfl

/-- The five registers the host writes. -/
def hostRegisters : List HReg := [.baudInit, .baudTgt, .wait, .addr, .txlen]

theorem writeReg_readOnly {r : HReg} (h : r ∉ hostRegisters) (v : W32) (s : State) : writeReg r v s = s := by
  unfold writeReg
  split
  · rfl
  · cases r with
    | baudInit | baudTgt | wait | addr | txlen => exact absurd (by decide) h
    | _ => rfl

/-- Between operations a 32-bit operand reads back what was written. -/
theorem readReg_writeReg_32 {r : HReg} (h : r ∈ [HReg.baudInit, .baudTgt]) (v : W32) {s : State} (hb : s.busy = false) :
    readReg r (writeReg r v s) = some v := by
  simp only [List.mem_cons, List.not_mem_nil, or_false] at h
  rcases h with rfl | rfl <;> simp [writeReg, hb, readReg]

/-- Between operations a 16-bit operand reads back the low half. -/
theorem readReg_writeReg_16 {r : HReg} (h : r ∈ [HReg.wait, .addr, .txlen]) (v : W32) {s : State} (hb : s.busy = false) :
    readReg r (writeReg r v s) = some (v &&& 0xFFFF) := by
  simp only [List.mem_cons, List.not_mem_nil, or_false] at h
  rw [← setWidth_setWidth_16]
  rcases h with rfl | rfl | rfl <;> simp [writeReg, hb, readReg]

/-- Settles O59: a write by what it leaves and what it sets, a read by the register's own case. -/
theorem hostReadsAndWrites : Obligations.HostReadsAndWrites := by
  unfold Obligations.HostReadsAndWrites
  refine ⟨fun s r v rest hr => ?_, fun s => ?_⟩
  · refine ⟨_, step_writeReg s hr v rest, writeReg_changes r v { s with inbox := rest },
      fun r' h => readReg_writeReg_other h v { s with inbox := rest }, fun hb h => readReg_writeReg_32 h v hb,
      fun hb h => readReg_writeReg_16 h v hb, fun h => ?_⟩
    rcases h with hb | hro
    · exact writeReg_busy r v { s with inbox := rest } hb
    · exact writeReg_readOnly hro v { s with inbox := rest }
  · refine ⟨readReg_status s, rfl, rfl, rfl, rfl, rfl, rfl, rfl, rfl, rfl, rfl, rfl, rfl, fun hs => ?_, fun hs r hr => ?_,
      fun k => rfl⟩
    · simp [readReg, sessionValue, hs]
    · simp only [List.mem_cons, List.not_mem_nil, or_false] at hr
      rcases hr with rfl | rfl | rfl | rfl <;> simp [readReg, sessionValue, hs]

theorem step_load (s : State) (k : Nat) (b : Byte) (rest : List Event) :
    step { s with inbox := .load k b :: rest } = loadByte k b { s with inbox := rest } :=
  step_event { s with inbox := .load k b :: rest } _ rest rfl (by simp)

/-- Settles O60, by the three branches of a write to TXBUF. -/
theorem loadedByteReadsBack : Obligations.LoadedByteReadsBack := by
  unfold Obligations.LoadedByteReadsBack
  intro s k b rest
  rw [step_load, loadByte]
  refine ⟨fun hb hk => ?_, fun hb => if_pos hb, fun hb hk => ?_⟩
  · refine ⟨{ s with inbox := rest, txbuf := s.txbuf.write k b }, ?_, rfl, ?_, fun a ha => ?_⟩
    · rw [if_neg (by simp [hb]), if_pos (by exact hk)]
    · simp [readTxbuf, hb, Memory.read_write_same]
    · simp [readTxbuf, hb, Memory.read_write_other _ _ _ _ ha]
  · rw [if_neg (by simp [hb]), if_neg (by exact Nat.not_lt_of_le hk)]

/-! ### The fetch -/

/-- Settles O44: `step` is exec of what the decoder reads. -/
theorem stepRunsTheDecodedInstruction : Obligations.StepRunsTheDecodedInstruction := by
  unfold Obligations.StepRunsTheDecodedInstruction
  intro s ch bytes i hf hd
  unfold step
  simp only [hf, hd]

/-- Settles O45: an event comes first; with none waiting, what the block is about to send. -/
theorem fetchFindsTheNextInstruction : Obligations.FetchFindsTheNextInstruction := by
  unfold Obligations.FetchFindsTheNextInstruction
  intro s rest
  refine ⟨fun v => rfl, fun bytes => rfl, fun p hs hp => ?_, fun hb hph hc => ?_⟩
  · simp only [sending, Bool.and_eq_true, decide_eq_true_eq] at hs
    obtain ⟨⟨hb, hph⟩, rfl⟩ := hs
    simp [fetch, hb, hph, maxPayload, hp]
  · simp [fetch, hb, hph, hc, synchByte]

/-! ### Reset -/

/-- Settles O48: the values are those `State.reset` gives. -/
theorem resetValues : Obligations.ResetValues := by
  unfold Obligations.ResetValues
  have hstatus : statusByte State.reset = 0x00 := by decide
  exact ⟨hstatus, rfl, rfl, rfl, rfl, rfl, rfl, rfl, rfl, rfl, rfl, rfl, rfl, rfl, rfl, rfl, rfl, rfl, rfl, rfl, rfl, rfl⟩

/-- Settles O49: reset comes through whatever the block is doing, and releases the port that is held. -/
theorem resetWinsAtAnyMoment : Obligations.ResetWinsAtAnyMoment := by
  unfold Obligations.ResetWinsAtAnyMoment
  intro s rest
  have hstep : step { s with inbox := .reset :: rest } = .next (hwReset { s with inbox := rest }) :=
    step_event { s with inbox := .reset :: rest } _ rest rfl (by simp)
  refine ⟨Config.staleInput s.fresh, s.fresh + 1, portHeld s, fun ho => by simp [portHeld, ho], portHeld_of_not_opening, ?_⟩
  rw [hstep]
  rfl

end Sys2Proof.Machine
end

section
/-!
What the block hands to the line and what it does when nothing comes back: the frame of a payload, the one write of a host frame,
a missing reply, the start of the polling, and the silence between operations.
-/

namespace Sys2Proof.Machine

/-! ### Frames -/

/-- Settles O5: each field stands where `encodeFrame` writes it, and SIZE is exact up to the largest payload. -/
theorem frameOccupiesPayloadPlusEight : Obligations.FrameOccupiesPayloadPlusEight := by
  unfold Obligations.FrameOccupiesPayloadPlusEight
  intro c p hp
  refine ⟨by simp [encodeFrame], ?_, rfl, rfl⟩
  show (be16 (hi (sizeField p)) (lo (sizeField p))).toNat = p.length + 6
  rw [be16_hi_lo, sizeField_toNat p hp]

/-- A well-formed host frame other than the probe is SEND of its payload, which a frame can carry. -/
theorem hostFrame_sends {i : Instr} (hc : channelOf i = .toDevice) (hi : i ≠ .synch) (hw : i.WellFormed) :
    encode i = encodeFrame txCode (hostPayload i) ∧ (hostPayload i).length ≤ maxPayload
      ∧ ∀ s, exec i s = sendFrame (hostPayload i) s := by
  cases i with
  | synch => exact absurd rfl hi
  | baudSet f c => exact ⟨rfl, show 8 ≤ maxPayload by decide, fun _ => rfl⟩
  | baudCheckShort => exact ⟨rfl, by decide, fun _ => rfl⟩
  | baudCheckExt => exact ⟨rfl, by decide, fun _ => rfl⟩
  | erase => exact ⟨rfl, by decide, fun _ => rfl⟩
  | write a d =>
    have hd : d.length + 5 ≤ maxPayload := of_decide_eq_true hw
    have hl : (writePayload a d).length = d.length + 5 := by simp [writePayload]
    exact ⟨rfl, hl.trans_le hd, fun _ => rfl⟩
  | xferFrame p =>
    have hp : p.length ≤ maxPayload := of_decide_eq_true (Bool.and_eq_true_iff.mp hw).1
    exact ⟨rfl, hp, fun _ => rfl⟩
  | _ => cases hc

/-- Settles O37: every host frame is SEND of its payload. -/
theorem hostFramesGoOutWhole : Obligations.HostFramesGoOutWhole := by
  unfold Obligations.HostFramesGoOutWhole
  intro i s hc hi hw hs
  obtain ⟨henc, hlen, hexec⟩ := hostFrame_sends hc hi hw
  rw [hexec, henc, sendFrame, if_pos hs, if_pos hlen]
  rfl

/-! ### A missing reply -/

/-- NoFrame fails a command with NO_REPLY (R161, R266). -/
theorem noFrame_command {s : State} (h : s.op ≠ .identify) : noFrame s = failedWith 0x26 0 s := by
  rw [noFrame, if_neg h, raise_eq_failedWith rfl]
  rfl

/-- NoFrame sends IDENTIFY round its loop (R184). -/
theorem noFrame_identify {s : State} (h : s.op = .identify) : noFrame s = { s with phase := .probe } := if_pos h

/-- At the first read of DECODE a timeout is NoFrame (R151). -/
theorem takeTimeout_prefix {s : State} (h : s.rxs = .sPrefix) : takeTimeout s = noFrame s := if_pos h

/-- At the first read of DECODE a byte other than PREFIX is NoFrame (R151). -/
theorem takeByte_noise {s : State} (h : s.rxs = .sPrefix) {b : Byte} (hb : b ≠ prefixByte) : takeByte b s = noFrame s := by
  simp [takeByte, h, takePrefix, hb]

/-- With a read pending and no byte waiting, a timeout answers the read (R251). -/
theorem step_timeout {s : State} (hr : reading s = true) (hq : s.rxq = []) (rest : List Event) :
    step { s with inbox := .timeout :: rest } = .next (takeTimeout { s with inbox := rest }) := by
  have hread : (reading { s with inbox := rest } && s.rxq.isEmpty) = true :=
    Bool.and_eq_true_iff.mpr ⟨hr, by rw [hq]; rfl⟩
  exact (step_event { s with inbox := .timeout :: rest } _ rest rfl (by simp)).trans (if_pos hread)

/-- With a read pending and no event, the oldest byte of RXQ answers the read. -/
theorem step_waitingByte {s : State} (hr : reading s = true) (b : Byte) (q : List Byte) :
    step { s with inbox := [], rxq := b :: q } = .next (takeByte b { s with inbox := [], rxq := q }) := by
  obtain ⟨hb, hp⟩ := (reading_iff s).mp hr
  rw [step_alone _ rfl, if_neg (by simp [hp])]
  simp [blockStep, hb, hp, answerRead]

/-- Settles O42: at the first read both answers are NoFrame, at a later one the timeout cuts the frame. -/
theorem missingReplyFailsOrPollsOn : Obligations.MissingReplyFailsOrPollsOn := by
  unfold Obligations.MissingReplyFailsOrPollsOn
  intro s rest hr hq
  have timeout : s.rxs = .sPrefix →
      step { s with inbox := .timeout :: rest } = .next (noFrame { s with inbox := rest }) := fun hx =>
    (step_timeout hr hq rest).trans (congrArg _ (takeTimeout_prefix (s := { s with inbox := rest }) hx))
  have noise : s.rxs = .sPrefix → ∀ b : Byte, b ≠ 0x46 →
      step { s with inbox := [], rxq := [b] } = .next (noFrame { s with inbox := [] }) := fun hx b hb => by
    rw [step_waitingByte hr, takeByte_noise (s := { s with inbox := [], rxq := [] }) hx hb, ← hq]
  refine ⟨fun hx ho => ⟨?_, fun b hb => ?_⟩, fun hx ho => ⟨?_, fun b hb => ?_⟩, fun hx => ?_⟩
  · rw [timeout hx, noFrame_command (s := { s with inbox := rest }) ho]
    rfl
  · rw [noise hx b hb, noFrame_command (s := { s with inbox := [] }) ho]
    rfl
  · rw [timeout hx, noFrame_identify (s := { s with inbox := rest }) ho]
  · rw [noise hx b hb, noFrame_identify (s := { s with inbox := [] }) ho]
  · rw [step_timeout hr hq, takeTimeout_inside (t := { s with inbox := rest }) hx]
    rfl

/-! ### The start of the polling -/

/-- Settles O18: with its preconditions met IDENTIFY is accepted. -/
theorem identifyStartsThePolling : Obligations.IdentifyStartsThePolling := by
  unfold Obligations.IdentifyStartsThePolling
  intro s hready ho hs
  show execIdentify s = _
  rw [execIdentify, onCmd_of_ready hready, if_neg (by simp [ho]), if_neg (by simp [hs])]
  rfl

/-! ### Silence between operations -/

@[simp] theorem lineBytes_append (a b : List TpCall) : lineBytes (a ++ b) = lineBytes a ++ lineBytes b :=
  List.filterMap_append

@[simp] theorem lineBytes_close : lineBytes [.close] = [] := rfl
@[simp] theorem lineBytes_flush : lineBytes [.flush] = [] := rfl
@[simp] theorem lineBytes_openPort (port : Nat) : lineBytes [.openPort port] = [] := rfl
@[simp] theorem lineBytes_setBaud (v : W32) : lineBytes [.setBaud v] = [] := rfl

/-- Releasing a port hands over no byte. -/
@[simp] theorem lineBytes_released (held : Bool) (out : List TpCall) :
    lineBytes (if held then out ++ [.close] else out) = lineBytes out := by
  cases held <;> simp

@[simp] theorem lineBytes_raise (f : Failure) (info : W16) (s : State) : lineBytes (raise f info s).out = lineBytes s.out := by
  rw [raise_out, lineBytes_released]

/-- A CMD write hands over no byte: an accepted operation sends in later steps. -/
theorem CmdOutcome.keeps_lineBytes {v : Byte} {s t : State} (h : CmdOutcome v s (.next t)) :
    lineBytes t.out = lineBytes s.out := by
  cases h with
  | abort => exact lineBytes_released _ _
  | dropped => rfl
  | clrerr => rfl
  | accepted hb he o ha =>
    cases ha with
    | refused d info => exact lineBytes_raise _ _ _
    | capacity => exact lineBytes_raise _ _ _
    | nop => rfl
    | close => exact lineBytes_released _ _
    | clrerr => rfl
    | openPort => simp
    | identify => simp
    | setbaud => rfl
    | checkbaud => simp [startExchange]
    | erase => rfl
    | write => rfl
    | xfer => rfl

/-- Settles O57: between operations the sequencer and the receiver do nothing, and what the host does hands over no byte. -/
theorem idleBlockIsSilent : Obligations.IdleBlockIsSilent := by
  unfold Obligations.IdleBlockIsSilent
  intro s t hidle hs
  have idle : ∀ {p : Prop}, s.busy = true → p := fun h => by simp [hidle] at h
  have he := step_effect s
  rw [hs] at he
  cases he with
  | exchange o h =>
    cases h with
    | going _ hu hq => rw [hq hidle]
    | failed f info u hu hbusy => exact idle hbusy
    | completed u hu hbusy => exact idle hbusy
    | identified u hu hbusy => exact idle hbusy
  | opened u hu hbusy => exact idle hbusy
  | command v r hi o hc => exact hc.keeps_lineBytes
  | register k v r hk hi => rw [writeReg_changes]
  | load k b r hi o ho => rw [(loadByte_next ho).1]
  | reset r hi => exact lineBytes_released _ _

end Sys2Proof.Machine
end

section
/-!
Encodings in both directions: a frame parses back to its payload, the row of a payload carries that payload, and a channel accepts
exactly the encodings of its well-formed instructions.
-/

namespace Sys2Proof

/-! ### Frames -/

/-- A frame parses back to its payload, whatever follows it (R158). -/
theorem parseFrame_encodeFrame (c : Byte) {p : List Byte} (h : p.length ≤ maxPayload) (rest : List Byte) :
    parseFrame c (encodeFrame c p ++ rest) = .frame p rest := by
  have hz : (sizeField p).toNat = p.length + 6 := sizeField_toNat p h
  rw [encodeFrame_append, parseFrame, if_pos rfl, parseHeader, if_pos ⟨rfl, rfl⟩, parseSize, be16_hi_lo, hz,
    if_neg (by omega), Nat.add_sub_cancel, parsePayload, if_neg (by simp), List.take_left, List.drop_left, parseTail,
    be16_hi_lo, if_neg (by simp), if_neg (by simp)]

/-- Bytes that parse as a host frame are the row of its payload. -/
theorem decode_toDevice_of_frame {bs p rest : List Byte} (h : parseFrame txCode bs = .frame p rest) :
    decode .toDevice bs = .ok (txRow p, rest) := by
  cases bs with
  | nil => cases h
  | cons b r =>
    have hb : b ≠ synchByte := by rintro rfl; cases h
    simp only [decode, if_neg hb, h]

/-- Bytes that parse as a frame are the row the operation in progress awaits, where it awaits one of that payload. -/
theorem decode_fromDevice_of_frame {o : Op} {bs p rest : List Byte} {i : Instr} (h : parseFrame rxCode bs = .frame p rest)
    (hi : rxRow o p = some i) : decode (.fromDevice o) bs = .ok (i, rest) := by
  cases bs with
  | nil => cases h
  | cons b r => simp only [decode, h, hi]

/-! ### The row of a CMD value -/

/-- A CMD value is the encoding of its well-formed row (R120, R129). -/
theorem decodeCmd_row (v : Byte) :
    channelOf (decodeCmd v) = .cmd ∧ (decodeCmd v).WellFormed ∧ encode (decodeCmd v) = [v] := by
  revert v
  decide

/-- A well-formed CMD row is the row of its value. -/
theorem encode_cmd {i : Instr} (hc : channelOf i = .cmd) (hw : i.WellFormed) : ∃ v, encode i = [v] ∧ decodeCmd v = i := by
  cases i with
  | reservedHi v => exact ⟨v, rfl, if_pos (bne_iff_ne.mp hw)⟩
  | nop | openOp | close | identify | setbaud | checkbaud | eraseOp | writeOp | xfer | reserved9 | reservedA | reservedB
  | reservedC | reservedD | reservedE | clrerr => exact ⟨_, rfl, by decide⟩
  | _ => cases hc

/-! ### The row of a host frame -/

/-- The generic row is for the payloads that are no command's (R131). -/
theorem txRow_eq_xferFrame_iff (p : List Byte) : txRow p = .xferFrame p ↔ isCommandPayload p = false := by
  unfold txRow
  split
  · rename_i h
    subst h
    decide
  split
  · rename_i h
    subst h
    decide
  split
  · rename_i h
    subst h
    decide
  rename_i h1 h2 h3
  have hshort : (p == [0x05]) = false := beq_eq_false_iff_ne.mpr h1
  have hext : (p == [0x05, 0x00, 0x00, 0x5A, 0xA5]) = false := beq_eq_false_iff_ne.mpr h2
  have herase : (p == [0x03, 0x00, 0x00, 0x5A, 0xA5]) = false := beq_eq_false_iff_ne.mpr h3
  unfold isCommandPayload
  rw [hshort, hext, herase]
  split
  · split
    · rename_i hw
      obtain ⟨rfl, rfl, rfl⟩ := hw
      simp [breakByte]
    split
    · rename_i hs
      obtain ⟨rfl, rfl, rfl⟩ := hs
      simp
    · rename_i hw hs
      simpa [breakByte] using And.intro hw hs
  · simp

@[simp] theorem hostPayload_write (a : W16) (d : List Byte) : Machine.hostPayload (.write a d) = writePayload a d := rfl
@[simp] theorem hostPayload_baudSet (f : Byte) (c : W16) : Machine.hostPayload (.baudSet f c) = baudSetPayload f c := rfl

/-- The row of a payload carries that payload. -/
theorem hostPayload_txRow (p : List Byte) : Machine.hostPayload (txRow p) = p := by
  unfold txRow
  split
  · rename_i h
    exact h.symm
  split
  · rename_i h
    exact h.symm
  split
  · rename_i h
    exact h.symm
  split
  · split
    · rename_i hw
      obtain ⟨rfl, rfl, rfl⟩ := hw
      simp [hi_be16, lo_be16, writePayload]
    split
    · rename_i hs
      obtain ⟨rfl, rfl, rfl⟩ := hs
      simp [hi_be16, lo_be16, baudSetPayload]
    · rfl
  · rfl

/-- A payload that fits a frame has a well-formed row. -/
theorem wellFormed_txRow {p : List Byte} (h : p.length ≤ maxPayload) : (txRow p).WellFormed := by
  have hp := hostPayload_txRow p
  have hc := (encode_of_txRow p).1
  cases hrow : txRow p with
  | write a d =>
    rw [hrow] at hp
    have hl : (writePayload a d).length = d.length + 5 := by simp [writePayload]
    exact decide_eq_true (by rwa [← hl, ← hostPayload_write, hp])
  | xferFrame q =>
    rw [hrow] at hp
    have hq : q = p := hp
    subst hq
    simp [Instr.WellFormed, Instr.wellFormed, h, (txRow_eq_xferFrame_iff q).mp hrow]
  | synch | baudSet | baudCheckShort | baudCheckExt | erase => rfl
  | _ => simp [hrow, channelOf] at hc

/-- The payload of a well-formed host frame has that frame's row. -/
theorem txRow_hostPayload {i : Instr} (hc : channelOf i = .toDevice) (hi : i ≠ .synch) (hw : i.WellFormed) :
    txRow (Machine.hostPayload i) = i := by
  cases i with
  | synch => exact absurd rfl hi
  | baudSet f c =>
    simp [txRow, baudSetPayload, checkShortPayload, checkExtPayload, erasePayload, be16_hi_lo]
  | baudCheckShort | baudCheckExt | erase => decide
  | write a d =>
    simp [txRow, writePayload, checkShortPayload, checkExtPayload, erasePayload, be16_hi_lo]
  | xferFrame p =>
    have hn : isCommandPayload p = false := by simpa using (Bool.and_eq_true_iff.mp hw).2
    exact (txRow_eq_xferFrame_iff p).mpr hn
  | _ => cases hc

/-! ### The row of a reply -/

/-- A payload that fits a frame has a well-formed row, if it has one. -/
theorem wellFormed_rxRow {o : Op} {p : List Byte} {i : Instr} (h : p.length ≤ maxPayload) (hi : rxRow o p = some i) :
    i.WellFormed := by
  unfold rxRow at hi
  split at hi
  case h_1 =>
    split at hi
    · rename_i hmin
      cases hi
      exact Bool.and_eq_true_iff.mpr ⟨decide_eq_true hmin, decide_eq_true h⟩
    · cases hi
  case h_2 | h_3 | h_4 | h_5 =>
    split at hi
    · cases hi
      exact decide_eq_true h
    · cases hi
  case h_6 =>
    cases hi
    exact decide_eq_true h
  case h_7 => cases hi

/-- A well-formed reply is the row of a payload that fits a frame. -/
theorem encode_reply {o : Op} {i : Instr} (hc : channelOf i = .fromDevice o) (hw : i.WellFormed) :
    ∃ p, encode i = encodeFrame rxCode p ∧ p.length ≤ maxPayload ∧ rxRow o p = some i := by
  cases i with
  | rIdent p =>
    cases hc
    obtain ⟨hmin, hmax⟩ := Bool.and_eq_true_iff.mp hw
    exact ⟨p, rfl, of_decide_eq_true hmax, if_pos (of_decide_eq_true hmin)⟩
  | rBaudSet q | rBaudCheck q | rErase q | rWrite q | rAny q => cases hc; exact ⟨_, rfl, of_decide_eq_true hw, rfl⟩
  | _ => cases hc

/-! ### The statements -/

/-- Settles O1: each channel reads its own encodings back. -/
theorem decodeOfEncodeIsTheInstruction : Obligations.DecodeOfEncodeIsTheInstruction := by
  unfold Obligations.DecodeOfEncodeIsTheInstruction
  intro i rest hw
  cases hc : channelOf i with
  | cmd =>
    obtain ⟨v, he, hv⟩ := encode_cmd hc hw
    rw [he, ← hv]
    rfl
  | toDevice =>
    by_cases hi : i = .synch
    · subst hi
      rfl
    · obtain ⟨he, hl, -⟩ := Machine.hostFrame_sends hc hi hw
      rw [he, decode_toDevice_of_frame (parseFrame_encodeFrame txCode hl rest), txRow_hostPayload hc hi hw]
  | fromDevice o =>
    obtain ⟨p, he, hl, hrow⟩ := encode_reply hc hw
    rw [he]
    exact decode_fromDevice_of_frame (parseFrame_encodeFrame rxCode hl rest) hrow

/-- Settles O2: what parses as a frame is its encoding, and the row of its payload is well-formed. -/
theorem acceptedBytesAreTheEncoding : Obligations.AcceptedBytesAreTheEncoding := by
  unfold Obligations.AcceptedBytesAreTheEncoding
  intro ch bs rest i h
  cases bs with
  | nil => cases h
  | cons b r =>
  cases ch with
  | cmd =>
    cases h
    obtain ⟨hc, hw, he⟩ := decodeCmd_row b
    exact ⟨hc, hw, by rw [he]; rfl⟩
  | toDevice =>
    simp only [decode] at h
    split at h
    · rename_i hb
      cases h
      exact ⟨rfl, rfl, by rw [hb]; rfl⟩
    split at h
    · cases h
    · cases h
    rename_i p _ hp
    cases h
    obtain ⟨hl, hbytes⟩ := bytes_of_parseFrame _ _ _ _ hp
    obtain ⟨hc, -, he⟩ := encode_of_txRow p
    exact ⟨hc, wellFormed_txRow hl, by rw [he, hbytes]⟩
  | fromDevice o =>
    simp only [decode] at h
    split at h
    · cases h
    · cases h
    rename_i p _ hp
    split at h
    case h_2 => cases h
    rename_i hrow
    cases h
    obtain ⟨hl, hbytes⟩ := bytes_of_parseFrame _ _ _ _ hp
    obtain ⟨hc, he⟩ := encode_of_rxRow o p _ hrow
    exact ⟨hc, wellFormed_rxRow hl hrow, by rw [he, hbytes]⟩

/-- Settles O3: each of the words is the encoding of its instruction, and decodes to it by O1. -/
theorem wordsOfTheSpecDecode : Obligations.WordsOfTheSpecDecode := by
  unfold Obligations.WordsOfTheSpecDecode
  have word : ∀ (i : Instr) (bs : List Byte), i.WellFormed → encode i = bs → decode (channelOf i) bs = .ok (i, []) :=
    fun i bs hw hb => by
      rw [← hb, ← List.append_nil (encode i)]
      exact decodeOfEncodeIsTheInstruction i [] hw
  exact ⟨word .erase _ rfl (by decide), word (.baudSet 0x1B 0xFFCC) _ rfl (by decide), word (.rWrite []) _ rfl (by decide),
    word .clrerr _ rfl rfl⟩

end Sys2Proof
end

section
/-!
A reply at the first read of DECODE: the frame arrives, is stored, and ends the operation that awaits it. Reserved CMD values, and
that no step is refused.
-/

namespace Sys2Proof.Machine

/-! ### A frame that arrives -/

/-- `u` is `s` after DECODE has received the frame of the payload `p`, with nothing else done yet. -/
structure Received (p : List Byte) (s u : State) : Prop where
  state : u = { decodedTo p u s with phase := .finish }
  stored : PayloadStored p s u
  fits : p.length ≤ maxPayload

/-- At the first read of DECODE a whole frame is received, and the operation ends in the same step. -/
theorem AtDecodeStart.arrive_frame {s : State} {p : List Byte} (h : AtDecodeStart s) (hp : p.length ≤ maxPayload) :
    ∃ u, Received p s u ∧ arrive (encodeFrame rxCode p) s = finish u := by
  have hparse := parseFrame_encodeFrame rxCode hp []
  have hd := byteMachineAgreesWithDecode s (encodeFrame rxCode p) h
  rw [List.append_nil] at hparse
  rw [hparse] at hd
  have harr : arrive (encodeFrame rxCode p) s
      = settle (drain (encodeFrame rxCode p).length { s with rxq := encodeFrame rxCode p }) := by
    simp [arrive, portHeld, h.link, h.rxq]
  rw [harr]
  generalize drain (encodeFrame rxCode p).length { s with rxq := encodeFrame rxCode p } = u at hd
  obtain ⟨hu, hstored⟩ := hd
  have hs : ({ s with rxq := [] } : State) = s := by rw [← h.rxq]
  have hstate : u = { decodedTo p u s with phase := .finish } :=
    hu.trans (congrArg (fun v : State => { decodedTo p u v with phase := .finish }) hs)
  have hbusy : u.busy = true := by
    rw [hstate]
    exact ((reading_iff s).mp h.reading).1
  have hphase : u.phase = .finish := by rw [hstate]
  exact ⟨u, ⟨hstate, hstored, hp⟩, by simp [settle, hbusy, hphase]⟩

section
variable {p : List Byte} {s u : State}

theorem Received.op_eq (h : Received p s u) : u.op = s.op := by rw [h.state]; rfl
theorem Received.expect_eq (h : Received p s u) : u.expect = s.expect := by rw [h.state]; rfl

/-- The payload is RXBUF[0 : RXLEN) (R43). -/
theorem Received.readRange_rxbuf (h : Received p s u) : u.rxbuf.readRange 0 u.rxlen.toNat = some p := by
  have hfits : p.length ≤ 65529 := h.fits
  have hlen : u.rxlen.toNat = p.length := by
    rw [h.state]
    show (BitVec.ofNat 16 p.length).toNat = _
    rw [BitVec.toNat_ofNat]
    omega
  rw [hlen]
  exact h.stored.1

theorem Received.finish_identify (h : Received p s u) (ho : s.op = .identify) : finish u = .next (identified p u) := by
  simp [finish, h.readRange_rxbuf, h.op_eq, ho]

theorem Received.finish_command (h : Received p s u) (ho : s.op ≠ .identify) {e : Byte} (he : s.expect = some e) :
    finish u = .next (checkReply p e u) := by
  simp [finish, h.readRange_rxbuf, h.op_eq, h.expect_eq, ho, he]

end

/-! ### The identification -/

/-- Resolving the identifier leaves the receiver as DECODE left it. -/
theorem decodedTo_identifiedWith (catalog : W16 → Option (String × W32)) (p q : List Byte) (u s : State) :
    decodedTo q (identifiedWith catalog p u) s = decodedTo q u s := by
  unfold identifiedWith
  split
  · rfl
  · split <;> rfl

/-- Every way IDENTIFY takes a frame ends the operation, whatever the phase was. -/
theorem identifiedWith_phase (catalog : W16 → Option (String × W32)) (p : List Byte) (ph : Phase) (u : State) :
    identifiedWith catalog p { u with phase := ph } = identifiedWith catalog p u := by
  unfold identifiedWith
  split
  · rfl
  · split <;> rfl

/-- An identifier that the catalog holds creates the session (R183, R186). -/
theorem identifiedWith_known {catalog : W16 → Option (String × W32)} {p : List Byte} {name : String} {size : W32}
    (hp : identLength ≤ p.length) (hc : catalog (identId p) = some (name, size)) (s : State) :
    identifiedWith catalog p s = complete { s with
      fosc := identFosc p, chipId := identId p, chipVer := identVer p, flashSz := size, chipName := name
      session := true } := by
  simp [identifiedWith, Nat.not_lt_of_le hp, hc]

/-- Settles O35: the frame is received, and what is resolved is the payload it carried. -/
theorem identificationIsResolvedInTheCatalog : Obligations.IdentificationIsResolvedInTheCatalog := by
  unfold Obligations.IdentificationIsResolvedInTheCatalog
  intro s p h ho hw
  have hp : p.length ≤ maxPayload := of_decide_eq_true (Bool.and_eq_true_iff.mp hw).2
  obtain ⟨u, hu, harrive⟩ := h.arrive_frame hp
  have hkept : decodedTo p (identified p u) s = decodedTo p u s := decodedTo_identifiedWith Config.catalog p p u s
  refine ⟨identified p u, harrive.trans (hu.finish_identify ho), ?_, ?_⟩
  · have hbuf : (identified p u).rxbuf = u.rxbuf := (congrArg State.rxbuf hkept :)
    rw [PayloadStored, hbuf]
    exact hu.stored
  · calc identified p u
      _ = identifiedWith Config.catalog p { decodedTo p u s with phase := .finish } := congrArg (identified p) hu.state
      _ = identifiedWith Config.catalog p (decodedTo p u s) := identifiedWith_phase _ _ _ _
      _ = identifiedWith Config.catalog p (decodedTo p (identified p u) s) := by rw [hkept]

/-- Settles O33: O35, with the lookup known. -/
theorem identificationCreatesTheSession : Obligations.IdentificationCreatesTheSession := by
  unfold Obligations.IdentificationCreatesTheSession
  intro s p name size h ho hw hcat
  have hp : identLength ≤ p.length := of_decide_eq_true (Bool.and_eq_true_iff.mp hw).1
  obtain ⟨t, hexec, hstored, ht⟩ := identificationIsResolvedInTheCatalog s p h ho hw
  exact ⟨t, hexec, hstored, ht.trans (identifiedWith_known hp hcat _)⟩

/-! ### The reply to a command -/

/-- At the first read of a command, a reply that begins with the expected byte completes it (R161). -/
theorem AtDecodeStart.expected_completes {s : State} {c : Byte} {q : List Byte} (h : AtDecodeStart s)
    (ho : s.op ≠ .identify) (he : s.expect = some c) (hp : (c :: q).length ≤ maxPayload) :
    ∃ t, arrive (encodeFrame rxCode (c :: q)) s = .next t ∧ PayloadStored (c :: q) s t
      ∧ t = { decodedTo (c :: q) t s with done := true, busy := false, op := .nothing, phase := .idle } := by
  obtain ⟨u, hu, harrive⟩ := h.arrive_frame hp
  have hcheck : checkReply (c :: q) c u = complete u := if_pos rfl
  refine ⟨complete u, ?_, hu.stored, (congrArg complete hu.state :)⟩
  rw [harrive, hu.finish_command ho he, hcheck]

/-- Settles O38: each of the four replies is the arrival of its frame. -/
theorem expectedReplyCompletesTheCommand : Obligations.ExpectedReplyCompletesTheCommand := by
  unfold Obligations.ExpectedReplyCompletesTheCommand
  intro i s c q h ho hw hi he
  rcases hi with ⟨rfl, rfl⟩ | ⟨rfl, rfl⟩ | ⟨rfl, rfl⟩ | ⟨rfl, rfl⟩
  · exact h.expected_completes ho he (of_decide_eq_true hw)
  · exact h.expected_completes ho he (of_decide_eq_true hw)
  · exact h.expected_completes ho he (of_decide_eq_true hw)
  · exact h.expected_completes ho he (of_decide_eq_true hw)

/-! ### Refusals -/

/-- Between operations, with no failure recorded, a reserved value is refused as BAD_OP (R260, R299). -/
theorem refuseOp_of_ready {s : State} (h : Ready s) (v : Byte) :
    refuseOp v s = .next (refusedWith 0x18 (v.setWidth 16) s) :=
  onCmd_of_ready h v _

/-- Settles O26: the meaning of each reserved value is the refusal of it. -/
theorem reservedValuesAreRefused : Obligations.ReservedValuesAreRefused := by
  unfold Obligations.ReservedValuesAreRefused
  intro s h
  exact ⟨refuseOp_of_ready h 0x09, refuseOp_of_ready h 0x0A, refuseOp_of_ready h 0x0B, refuseOp_of_ready h 0x0C,
    refuseOp_of_ready h 0x0D, refuseOp_of_ready h 0x0E, refuseOp_of_ready h⟩

/-- A CMD write is dropped, taken, or refused with a failure code: it always has a meaning. -/
theorem CmdOutcome.not_refused {v : Byte} {s : State} {r : Refusal} (h : CmdOutcome v s (.refused r)) : False := by
  cases h with
  | accepted hb he o ha => cases ha

theorem loadByte_not_refused (k : Nat) (b : Byte) (s : State) (r : Refusal) : loadByte k b s ≠ .refused r := by
  unfold loadByte
  split
  · simp
  · split <;> simp

/-- Settles O50: none of the effects a step can have is a refusal by the model. -/
theorem noStepIsRefused : Obligations.NoStepIsRefused := by
  unfold Obligations.NoStepIsRefused
  intro s r hr
  have he := step_effect s
  rw [hr] at he
  cases he with
  | exchange o h => cases h
  | command v rest hi o hc => exact hc.not_refused
  | load k b rest hi o ho => exact loadByte_not_refused k b _ r ho

end Sys2Proof.Machine
end

section
/-!
The frame codec: ENCODE is injective, the parser on frames of another direction and on wrong checksums, SEND byte by byte
against the one write, what XFER stages, and a reply that is not the expected one.
-/

namespace Sys2Proof

/-! ### Frames -/

/-- Settles O4: frames of one length have payloads of one length, so the fields fall apart one by one. -/
theorem encodeIsInjective : Obligations.EncodeIsInjective := by
  unfold Obligations.EncodeIsInjective
  intro c c' p p' h
  have hlen : p.length = p'.length := by simpa [encodeFrame] using congrArg List.length h
  have hcode : c = c' := (congrArg (·.getD 2 0) h :)
  have htail : p ++ [hi (chksum c p), lo (chksum c p), suffixByte]
      = p' ++ [hi (chksum c' p'), lo (chksum c' p'), suffixByte] :=
    (congrArg (·.drop 5) h :)
  exact ⟨hcode, List.append_inj_left htail hlen⟩

/-- A frame of direction `d` is a HEADER failure for the receiver of any other direction (R152, R158). -/
theorem parseFrame_otherDirection {c d : Byte} (h : d ≠ c) (p rest : List Byte) :
    parseFrame c (encodeFrame d p ++ rest) = .bad (.header (be16 0xB9 d)) [] ((encodeFrame d p).drop 3 ++ rest) := by
  have hdrop : (encodeFrame d p).drop 3 ++ rest = hi (sizeField p) :: lo (sizeField p) ::
      (p ++ (hi (chksum d p) :: lo (chksum d p) :: suffixByte :: rest)) := by simp [encodeFrame]
  rw [encodeFrame_append, parseFrame, if_pos rfl, parseHeader, if_neg fun hh => h hh.2, hdrop]
  rfl

/-- Settles O6: the round trip is the parser's own, and the header is compared before anything else is read. -/
theorem roundTripForEveryDirectionCode : Obligations.RoundTripForEveryDirectionCode := by
  unfold Obligations.RoundTripForEveryDirectionCode
  intro d p rest hp
  exact ⟨parseFrame_encodeFrame d hp rest, fun hd => parseFrame_otherDirection hd p rest⟩

/-- A frame whose SIZE counts the payload `p` is decided by what stands after the payload. -/
theorem parseFrame_eq_parseTail (c : Byte) {p : List Byte} (h : p.length ≤ maxPayload) (tail : List Byte) :
    parseFrame c ((encodeFrame c p).take (p.length + 5) ++ tail) = parseTail c p tail := by
  have hz : (sizeField p).toNat = p.length + 6 := sizeField_toNat p h
  have htake : (encodeFrame c p).take (p.length + 5) ++ tail = prefixByte :: (prefixByte ^^^ 0xFF) :: c ::
      hi (sizeField p) :: lo (sizeField p) :: (p ++ tail) := by simp [encodeFrame]
  rw [htake, parseFrame, if_pos rfl, parseHeader, if_pos ⟨rfl, rfl⟩, parseSize, be16_hi_lo, hz, if_neg (by omega),
    Nat.add_sub_cancel, parsePayload, if_neg (by simp), List.take_left, List.drop_left]

/-- Settles O7: both checksum bytes and the suffix are read, and the checksum is tested first. -/
theorem wrongChecksumIsRejected : Obligations.WrongChecksumIsRejected := by
  unfold Obligations.WrongChecksumIsRejected
  intro c c0 c1 e p rest hp hc
  rw [List.append_assoc, parseFrame_eq_parseTail c hp]
  exact if_pos hc.symm

namespace Machine

/-! ### SEND byte by byte (R144) -/

/-- The payload lines of the table of R144. -/
theorem frameByte_payload (p : List Byte) {k : Nat} (hk : k < p.length) (acc : W16) :
    frameByte p (5 + k) acc = (p[k], addByte acc p[k]) := by
  have h1 : 5 + k ≠ 1 := by omega
  have h2 : 5 + k ≠ 2 := by omega
  have h3 : 5 + k ≠ 3 := by omega
  have h4 : 5 + k ≠ 4 := by omega
  simp [frameByte, h1, h2, h3, h4, hk]

/-- The last three lines of the table of R144. -/
theorem frameByte_tail (p : List Byte) (j : Nat) (acc : W16) :
    frameByte p (5 + p.length + j) acc = (if j = 0 then hi acc else if j = 1 then lo acc else suffixByte, acc) := by
  unfold frameByte
  rw [if_neg (by omega), if_neg (by omega), if_neg (by omega), if_neg (by omega), if_neg (by omega), if_neg (by omega)]
  match j with
  | 0 =>
    rw [if_pos (by omega)]
    rfl
  | 1 =>
    rw [if_neg (by omega), if_pos (by omega)]
    rfl
  | j + 2 =>
    rw [if_neg (by omega), if_neg (by omega)]
    rfl

/-- The accumulator before byte `k` of the frame of `p`, by the table of R144 from 0 on. -/
def frameAcc (p : List Byte) : Nat → W16
  | 0 => 0
  | k + 1 => (frameByte p k (frameAcc p k)).2

theorem byteSum_take_succ {p : List Byte} {k : Nat} (hk : k < p.length) :
    byteSum (p.take (k + 1)) = byteSum (p.take k) + p[k].toNat := by
  rw [List.take_succ_eq_append_getElem hk, byteSum, List.map_append, List.sum_append]
  rfl

/-- Inside the payload the accumulator is the sum of the code, SIZE and the bytes handed over. -/
theorem frameAcc_payload (p : List Byte) {k : Nat} (hk : k ≤ p.length) :
    frameAcc p (5 + k) = BitVec.ofNat 16
      (txCode.toNat + (hi (sizeField p)).toNat + (lo (sizeField p)).toNat + byteSum (p.take k)) := by
  induction k with
  | zero =>
    have hcode : addByte 0 txCode = BitVec.ofNat 16 txCode.toNat := by decide
    show addByte (addByte (addByte 0 txCode) _) _ = _
    rw [hcode, addByte_ofNat, addByte_ofNat]
    rfl
  | succ k ih =>
    have hlt : k < p.length := hk
    show (frameByte p (5 + k) (frameAcc p (5 + k))).2 = _
    rw [frameByte_payload p hlt, ih hlt.le, addByte_ofNat, byteSum_take_succ hlt, Nat.add_assoc _ (byteSum _)]

/-- After the payload the accumulator is the checksum, and stays it. -/
theorem frameAcc_tail (p : List Byte) (j : Nat) : frameAcc p (5 + p.length + j) = chksum txCode p := by
  induction j with
  | zero => rw [Nat.add_zero, frameAcc_payload p le_rfl, List.take_length, chksum]
  | succ j ih =>
    show (frameByte p (5 + p.length + j) (frameAcc p (5 + p.length + j))).2 = _
    rw [frameByte_tail, ih]

/-- Byte `k` of the byte-level SEND is byte `k` of ENCODE. -/
theorem encodeFrame_getElem? (p : List Byte) {k : Nat} (hk : k < p.length + 8) :
    (encodeFrame txCode p)[k]? = some (frameByte p k (frameAcc p k)).1 := by
  by_cases hhead : k < 5
  · interval_cases k <;> rfl
  obtain ⟨k, rfl⟩ := Nat.exists_eq_add_of_le (Nat.le_of_not_lt hhead)
  by_cases hpay : k < p.length
  · rw [frameByte_payload p hpay]
    simp [encodeFrame, Nat.add_comm 5 k, List.getElem?_append_left, hpay]
  obtain ⟨j, rfl⟩ := Nat.exists_eq_add_of_le (Nat.le_of_not_lt hpay)
  have hj : j < 3 := by omega
  rw [← Nat.add_assoc, frameByte_tail, frameAcc_tail]
  have htail : (encodeFrame txCode p)[5 + p.length + j]? 
      = [hi (chksum txCode p), lo (chksum txCode p), suffixByte][j]? := by
    rw [Nat.add_assoc, Nat.add_comm 5]
    exact List.getElem?_append_right (Nat.le_add_right p.length j) |>.trans (by rw [Nat.add_sub_cancel_left])
  rw [htail]
  interval_cases j <;> rfl

/-- `s` after the first `k` bytes of the frame of `p` have been handed over one by one. -/
def sentTo (p : List Byte) (k : Nat) (s : State) : State :=
  { emit (((encodeFrame txCode p).take k).map .write) s with txacc := frameAcc p k, txi := k }

/-- The first `k + 1` bytes are the first `k` and byte `k` of the byte-level SEND. -/
theorem map_write_take_succ (p : List Byte) {k : Nat} (hk : k < p.length + 8) :
    ((encodeFrame txCode p).take (k + 1)).map TpCall.write
      = ((encodeFrame txCode p).take k).map .write ++ [.write (frameByte p k (frameAcc p k)).1] := by
  rw [List.take_add_one, encodeFrame_getElem? p hk, List.map_append]
  rfl

/-- One more byte of the frame goes out. -/
theorem sendByte_sentTo {p : List Byte} {s : State} (hs : s.staged = p) {k : Nat} (hk : k < p.length + 7) :
    sendByte (sentTo p k s) = sentTo p (k + 1) s := by
  subst hs
  have hlast : ¬ (sentTo s.staged k s).staged.length + 7 ≤ (sentTo s.staged k s).txi := Nat.not_le_of_lt hk
  rw [sendByte, if_neg hlast, sentTo, sentTo, map_write_take_succ _ (Nat.lt_succ_of_lt hk)]
  simp only [emit, List.append_assoc]
  rfl

/-- `s` after the whole frame of `p` has been handed over: DECODE(LONG) begins (R160). -/
def sentWhole (p : List Byte) (s : State) : State :=
  startDecode true { emit ((encodeFrame txCode p).map .write) s with txacc := chksum txCode p, txi := 0 }

/-- From the first byte on, the one write hands over the whole frame. -/
theorem sendFrame_eq_sentWhole {p : List Byte} {s : State} (hs : sending p s = true) (hl : p.length ≤ maxPayload)
    (hi : s.txi = 0) : sendFrame p s = .next (sentWhole p s) := by
  rw [sendFrame, if_pos hs, if_pos hl, hi]
  rfl

/-- The last byte of the frame goes out, and DECODE(LONG) begins (R160). -/
theorem sendByte_sentTo_last {p : List Byte} {s : State} (hs : s.staged = p) :
    sendByte (sentTo p (p.length + 7) s) = sentWhole p s := by
  subst hs
  have hlast : (sentTo s.staged (s.staged.length + 7) s).staged.length + 7
      ≤ (sentTo s.staged (s.staged.length + 7) s).txi := le_rfl
  have hwhole := map_write_take_succ s.staged (k := s.staged.length + 7) (by omega)
  rw [List.take_of_length_le (by simp [encodeFrame])] at hwhole
  have hsum : (frameByte s.staged (s.staged.length + 7) (frameAcc s.staged (s.staged.length + 7))).2
      = chksum txCode s.staged := by
    have hlen : s.staged.length + 8 = 5 + s.staged.length + 3 := by omega
    show frameAcc s.staged (s.staged.length + 8) = _
    rw [hlen, frameAcc_tail]
  rw [sendByte, if_pos hlast, sentWhole, hwhole, ← hsum, sentTo]
  simp only [emit, List.append_assoc]

/-- A run whose first step has a next state goes on from there. -/
theorem run_succ_of_next {s t : State} (h : step s = .next t) (n : Nat) : core.run (n + 1) s = core.run n t := by
  simp only [Host.Core.run, core, h]

/-- In the middle of SEND a byte-level step hands over one byte. -/
theorem step_tick_sentTo {p : List Byte} {s : State} (hs : sending p s = true) (hl : p.length ≤ maxPayload) (k : Nat)
    (rest : List Event) :
    step (sentTo p k { s with inbox := .tick :: rest }) = .next (sendByte (sentTo p k { s with inbox := rest })) := by
  obtain ⟨⟨hb, hp⟩, hst⟩ : (s.busy = true ∧ s.phase = .tx) ∧ s.staged = p := by simpa [sending] using hs
  rw [step_event _ .tick rest rfl (by simp)]
  show blockStep (sentTo p k { s with inbox := rest }) = _
  simp [blockStep, sentTo, hb, hp, hst, hl]

/-- From `k` bytes on, one step a byte leads to where the one write leads. -/
theorem run_sentTo {p : List Byte} {s : State} (hs : sending p s = true) (hl : p.length ≤ maxPayload) (rest : List Event)
    (n k : Nat) (hk : k + n = p.length + 7) :
    core.run (n + 1) (sentTo p k { s with inbox := List.replicate (n + 1) .tick ++ rest })
      = .next (sentWhole p { s with inbox := rest }) := by
  have hstaged : s.staged = p := (of_decide_eq_true (Bool.and_eq_true_iff.mp hs).2 :)
  induction n generalizing k with
  | zero =>
    obtain rfl : k = p.length + 7 := hk
    have hbyte := sendByte_sentTo_last (s := { s with inbox := rest }) hstaged
    have hstep : step (sentTo p (p.length + 7) { s with inbox := .tick :: rest })
        = .next (sentWhole p { s with inbox := rest }) :=
      (step_tick_sentTo hs hl _ rest).trans (congrArg _ hbyte)
    exact run_succ_of_next hstep 0
  | succ n ih =>
    have hmore : k < p.length + 7 := by omega
    have hbyte := sendByte_sentTo (s := { s with inbox := List.replicate (n + 1) .tick ++ rest }) hstaged hmore
    have hstep : step (sentTo p k { s with inbox := .tick :: (List.replicate (n + 1) .tick ++ rest) })
        = .next (sentTo p (k + 1) { s with inbox := List.replicate (n + 1) .tick ++ rest }) :=
      (step_tick_sentTo hs hl k _).trans (congrArg _ hbyte)
    exact (run_succ_of_next hstep (n + 1)).trans (ih (k + 1) (by omega))

/-- Before the first byte nothing has been sent. -/
theorem sentTo_zero {s : State} (hi : s.txi = 0) (hacc : s.txacc = 0) (p : List Byte) : sentTo p 0 s = s := by
  obtain ⟨⟩ := s
  simp_all [sentTo, emit, frameAcc]

/-- Settles O8: the bytes go out one by one, each with its line of the table of R144, and add up to the one write. -/
theorem byteLevelSendEqualsOneWrite : Obligations.ByteLevelSendEqualsOneWrite := by
  unfold Obligations.ByteLevelSendEqualsOneWrite
  intro s p rest hp hs hi hacc
  have hrun := run_sentTo hs hp rest (p.length + 7) 0 (Nat.zero_add _)
  have hzero := sentTo_zero (s := { s with inbox := List.replicate (p.length + 8) .tick ++ rest }) hi hacc p
  rw [hzero] at hrun
  exact hrun.trans (sendFrame_eq_sentWhole (s := { s with inbox := rest }) hs hp hi).symm

/-! ### XFER -/

/-- Settles O24: with the preconditions met, what TXBUF holds is staged. -/
theorem xferStagesTheBuffer : Obligations.XferStagesTheBuffer := by
  unfold Obligations.XferStagesTheBuffer
  intro s d hready ho hlen hd
  have hl : tooLong 0 { s with done := false } = false := tooLong_eq_false hlen
  have hdata : txData { s with done := false } = some d := hd
  show execXfer s = _
  rw [execXfer, onCmd_of_ready hready, if_neg (by simp [ho]), if_neg (by simp [hl]), hdata]
  rfl

/-! ### A reply that is not the expected one -/

/-- At the first read of a command, a reply that CHECKREPLY does not accept ends it with that failure (R161, R301). -/
theorem AtDecodeStart.unexpected_fails {s : State} {e : Byte} {p : List Byte} {code : Byte} {info : W16}
    (h : AtDecodeStart s) (ho : s.op ≠ .identify) (he : s.expect = some e) (hp : p.length ≤ maxPayload)
    (hc : ∀ u, checkReply p e u = failedWith code info u) :
    ∃ t, arrive (encodeFrame rxCode p) s = .next t ∧ PayloadStored p s t
      ∧ t = failedWith code info (decodedTo p t s) := by
  obtain ⟨u, hu, harrive⟩ := h.arrive_frame hp
  refine ⟨failedWith code info u, ?_, hu.stored, (congrArg (failedWith code info) hu.state :)⟩
  rw [harrive, hu.finish_command ho he, hc]

theorem checkReply_nil (e : Byte) (u : State) : checkReply [] e u = failedWith 0x36 0 u := raise_eq_failedWith rfl 0 u

theorem checkReply_mismatch {b e : Byte} (h : b ≠ e) (q : List Byte) (u : State) :
    checkReply (b :: q) e u = failedWith 0x16 (b.setWidth 16) u :=
  (if_neg h).trans (raise_eq_failedWith rfl _ u)

/-- Settles O41: the payload decides which of the two failures of CHECKREPLY it is. -/
theorem unexpectedReplyIsRejected : Obligations.UnexpectedReplyIsRejected := by
  unfold Obligations.UnexpectedReplyIsRejected
  intro s e p rest h ho he hp hne
  have hstart : AtDecodeStart { s with inbox := rest } :=
    ⟨h.link, h.reading, h.field, h.rxcnt, h.rxacc, h.rxsize, h.rxchk, h.rxlen, h.rxq⟩
  rw [step_receive]
  cases p with
  | nil => exact hstart.unexpected_fails ho he hp (checkReply_nil e)
  | cons b q =>
    have hb : b ≠ e := fun hb => hne q (by rw [hb])
    exact hstart.unexpected_fails ho he hp (checkReply_mismatch hb q)

end Machine
end Sys2Proof
end

section
/-!
The handshake (41_handshake.md): what IDENTIFY and the other operations refuse, the head of the loop, the probe, the loop against a
target that never answers, and how an identification frame ends it.
-/

namespace Sys2Proof.Machine

/-! ### Preconditions -/

section
variable {s : State} {v : Byte} {run : State → Host.Outcome State Fault Refusal}

/-- An operation that tests OPEN first is refused as NOT_OPEN on a closed transport (R299). -/
theorem onCmd_notOpen (h : Ready s) (ho : s.opened = false) :
    onCmd v (fun s => if !s.opened then .next (raise (.refused .notOpen) 0 s) else run s) s
      = .next (refusedWith 0x28 0 s) := by
  rw [onCmd_of_ready h, if_pos (by simp [ho])]
  rfl

/-- An operation that tests SESSION after OPEN is refused as NO_SESSION on an open transport without one (R299). -/
theorem onCmd_noSession (h : Ready s) (ho : s.opened = true) (hs : s.session = false) :
    onCmd v (fun s => if !s.opened then .next (raise (.refused .notOpen) 0 s)
        else if !s.session then .next (raise (.refused .noSession) 0 s) else run s) s
      = .next (refusedWith 0x48 0 s) := by
  rw [onCmd_of_ready h, if_neg (by simp [ho]), if_pos (by simp [hs])]
  rfl

end

theorem execOpen_alreadyOpen {s : State} (h : Ready s) (ho : s.opened = true) :
    execOpen s = .next (refusedWith 0x38 0 s) := by
  rw [execOpen, onCmd_of_ready h, if_pos ho]
  rfl

theorem execIdentify_sessionExists {s : State} (h : Ready s) (ho : s.opened = true) (hs : s.session = true) :
    execIdentify s = .next (refusedWith 0x58 0 s) := by
  rw [execIdentify, onCmd_of_ready h, if_neg (by simp [ho]), if_pos hs]
  rfl

/-- Settles O27: each operation tests OPEN first and SESSION second. -/
theorem preconditionsAreTestedInOrder : Obligations.PreconditionsAreTestedInOrder := by
  unfold Obligations.PreconditionsAreTestedInOrder
  intro s h
  refine ⟨fun ho => ?closed, execOpen_alreadyOpen h, fun ho hs => ?noSession, execIdentify_sessionExists h⟩
  case closed =>
    simp only [List.forall_mem_cons, List.not_mem_nil, false_implies, implies_true, and_true]
    show execIdentify s = _ ∧ setbaudWith Config.oscBase s = _ ∧ execCheckbaud s = _ ∧ execEraseOp s = _
      ∧ execWriteOp s = _ ∧ execXfer s = _
    exact ⟨onCmd_notOpen h ho, onCmd_notOpen h ho, onCmd_notOpen h ho, onCmd_notOpen h ho, onCmd_notOpen h ho,
      onCmd_notOpen h ho⟩
  case noSession =>
    simp only [List.forall_mem_cons, List.not_mem_nil, false_implies, implies_true, and_true]
    show setbaudWith Config.oscBase s = _ ∧ execCheckbaud s = _ ∧ execEraseOp s = _ ∧ execWriteOp s = _
    exact ⟨onCmd_noSession h ho hs, onCmd_noSession h ho hs, onCmd_noSession h ho hs, onCmd_noSession h ho hs⟩

/-! ### The probe -/

/-- `s` after the probe: one byte 7F has gone out and DECODE(SHORT) begins (R181). -/
def probeSent (s : State) : State := startDecode false { emit [.write synchByte] s with counted := false }

/-- SYNCH in a counted iteration (R181, R192). -/
theorem execSynch_counted {s : State} (hb : s.busy = true) (hp : s.phase = .probe) (hc : s.counted = true) :
    execSynch s = .next (probeSent s) := by
  simp [execSynch, probeSent, hb, hp, hc]

/-- Settles O30: the probe, then the start of DECODE. -/
theorem synchSendsOneProbe : Obligations.SynchSendsOneProbe := by
  unfold Obligations.SynchSendsOneProbe
  intro s hb hp hc
  exact execSynch_counted hb hp hc

/-! ### The head of the loop -/

theorem blockStep_loopHead {s : State} (hb : s.busy = true) (hp : s.phase = .probe) (hc : s.counted = false) :
    blockStep s = .next (nextIteration s) := by
  simp [blockStep, hb, hp, hc]

theorem blockStep_probe {s : State} (hb : s.busy = true) (hp : s.phase = .probe) (hc : s.counted = true) :
    blockStep s = .next (probeSent s) := by
  rw [← execSynch_counted hb hp hc]
  simp [blockStep, hb, hp, hc]

/-- `s` with one more iteration counted. -/
def countIteration (s : State) : State := { s with iter := s.iter + 1, counted := true }

/-- Within the budget an iteration is counted (R183). -/
theorem nextIteration_within {s : State} (h : s.iter.toNat < iterLimit s) : nextIteration s = countIteration s := if_pos h

/-- With the budget spent HandshakeTimeout is raised (R189, R302). -/
theorem nextIteration_spent {s : State} (h : iterLimit s ≤ s.iter.toNat) : nextIteration s = refusedWith 0x02 0 s :=
  if_neg (Nat.not_lt_of_le h)

/-- Settles O31: at the head of the loop the budget decides. -/
theorem loopHeadCountsOrTimesOut : Obligations.LoopHeadCountsOrTimesOut := by
  unfold Obligations.LoopHeadCountsOrTimesOut
  intro s hi hb hp hc
  have hstep : step s = .next (nextIteration s) := by
    rw [step_alone s hi, if_neg (by simp [hp]), blockStep_loopHead hb hp hc]
  exact ⟨fun hlt => hstep.trans (congrArg _ (nextIteration_within hlt)),
    fun hle => hstep.trans (congrArg _ (nextIteration_spent hle))⟩

/-! ### A target that never answers -/

/-- IDENTIFY is at the head of its loop and no byte waits. -/
structure AtLoopHead (s : State) : Prop where
  busy : s.busy = true
  op : s.op = .identify
  phase : s.phase = .probe
  counted : s.counted = false
  rxq : s.rxq = []

/-- `s` after one more iteration whose probe no one answers. -/
def silentRound (s : State) : State := { probeSent (countIteration s) with phase := .probe }

section
variable (s : State)

@[simp] theorem silentRound_busy : (silentRound s).busy = s.busy := by simp [silentRound, probeSent, countIteration]
@[simp] theorem silentRound_op : (silentRound s).op = s.op := by simp [silentRound, probeSent, countIteration]
@[simp] theorem silentRound_opened : (silentRound s).opened = s.opened := by
  simp [silentRound, probeSent, countIteration]
@[simp] theorem silentRound_session : (silentRound s).session = s.session := by
  simp [silentRound, probeSent, countIteration]
@[simp] theorem silentRound_rxq : (silentRound s).rxq = s.rxq := by simp [silentRound, probeSent, countIteration]
@[simp] theorem silentRound_iter : (silentRound s).iter = s.iter + 1 := by
  simp [silentRound, probeSent, countIteration]
@[simp] theorem silentRound_iterLimit : iterLimit (silentRound s) = iterLimit s := by
  simp [iterLimit, silentRound, probeSent, countIteration]
@[simp] theorem silentRound_out :
    (silentRound s).out = s.out ++ [TpCall.write synchByte] ++ [TpCall.setTimeout false] := by
  simp [silentRound, probeSent, countIteration]

end

/-- `t` is `s` after `n` more iterations: each has been counted and has sent its probe, and the link is as it was. -/
structure Probed (n : Nat) (s t : State) : Prop where
  iter : t.iter.toNat = s.iter.toNat + n
  opened : t.opened = s.opened
  session : t.session = s.session
  line : lineBytes t.out = lineBytes s.out ++ List.replicate n synchByte

/-- The events of `n` iterations whose probes no one answers: each is counted, sends its probe and meets the timeout. -/
def silence (n : Nat) : List Event := (List.replicate n [Event.tick, .tick, .timeout]).flatten

theorem silence_succ (n : Nat) : silence (n + 1) = .tick :: .tick :: .timeout :: silence n := rfl

theorem step_tick (s : State) (rest : List Event) :
    step { s with inbox := .tick :: rest } = blockStep { s with inbox := rest } :=
  step_event { s with inbox := .tick :: rest } .tick rest rfl (by simp)

section
variable {s t : State} {n : Nat}

/-- Below its bound ITER does not wrap (R40). -/
theorem silentRound_iter_toNat (h : s.iter.toNat < iterLimit s) : (silentRound s).iter.toNat = s.iter.toNat + 1 := by
  have hwait : s.wait.toNat < 65536 := s.wait.isLt
  have hiter : s.iter.toNat + 1 < 2 ^ 24 := by
    unfold iterLimit at h
    omega
  rw [silentRound_iter, BitVec.toNat_add]
  exact Nat.mod_eq_of_lt hiter

theorem lineBytes_silentRound (s : State) : lineBytes (silentRound s).out = lineBytes s.out ++ [synchByte] := by
  rw [silentRound_out, lineBytes_append, lineBytes_append]
  exact List.append_nil _

theorem Probed.zero (r : List Event) : Probed 0 s { s with inbox := r } := ⟨rfl, rfl, rfl, (List.append_nil _).symm⟩

/-- One iteration, and then those that follow it. -/
theorem Probed.succ (hlt : s.iter.toNat < iterLimit s) (h : Probed n (silentRound s) t) : Probed (n + 1) s t where
  iter := by
    rw [h.iter, silentRound_iter_toNat hlt]
    omega
  opened := h.opened.trans (silentRound_opened s)
  session := h.session.trans (silentRound_session s)
  line := by rw [h.line, lineBytes_silentRound, List.append_assoc, List.replicate_succ, List.singleton_append]

theorem AtLoopHead.silentRound (h : AtLoopHead s) : AtLoopHead (silentRound s) where
  busy := (silentRound_busy s).trans h.busy
  op := (silentRound_op s).trans h.op
  phase := rfl
  counted := rfl
  rxq := (silentRound_rxq s).trans h.rxq

theorem AtLoopHead.step_tick (h : AtLoopHead s) (rest : List Event) :
    step { s with inbox := .tick :: rest } = .next (nextIteration { s with inbox := rest }) :=
  (Machine.step_tick s rest).trans (blockStep_loopHead h.busy h.phase h.counted)

/-- One iteration within the budget: three steps to the next head of the loop (R184, R192). -/
theorem AtLoopHead.run_silentRound (h : AtLoopHead s) (hlt : s.iter.toNat < iterLimit s) (n : Nat) (rest : List Event) :
    core.run (n + 3) { s with inbox := .tick :: .tick :: .timeout :: rest }
      = core.run n { Machine.silentRound s with inbox := rest } := by
  have hcount : step { s with inbox := .tick :: .tick :: .timeout :: rest }
      = .next { countIteration s with inbox := .tick :: .timeout :: rest } :=
    (h.step_tick _).trans (congrArg _ (nextIteration_within hlt))
  have hprobe : step { countIteration s with inbox := .tick :: .timeout :: rest }
      = .next { probeSent (countIteration s) with inbox := .timeout :: rest } :=
    (Machine.step_tick _ _).trans (blockStep_probe h.busy h.phase rfl)
  have hreading : reading (probeSent (countIteration s)) = true := by simp [reading, probeSent, countIteration, h.busy]
  have hqueue : (probeSent (countIteration s)).rxq = [] := by simp [probeSent, countIteration, h.rxq]
  have hop : (probeSent (countIteration s)).op = .identify := by simp [probeSent, countIteration, h.op]
  have htimeout : step { probeSent (countIteration s) with inbox := .timeout :: rest }
      = .next { Machine.silentRound s with inbox := rest } := by
    obtain ⟨-, hpolls, -⟩ := missingReplyFailsOrPollsOn (probeSent (countIteration s)) rest hreading hqueue
    exact (hpolls rfl hop).1
  rw [run_succ_of_next hcount, run_succ_of_next hprobe, run_succ_of_next htimeout]

/-- The head of the loop with the budget spent. -/
theorem AtLoopHead.run_spent (h : AtLoopHead s) (hle : iterLimit s ≤ s.iter.toNat) :
    core.run 1 { s with inbox := [.tick] } = .next (refusedWith 0x02 0 { s with inbox := [] }) :=
  run_succ_of_next ((h.step_tick []).trans (congrArg _ (nextIteration_spent hle))) 0

/-- Silence for the `n` iterations that are left spends the budget, one probe an iteration, and ends in HandshakeTimeout. -/
theorem AtLoopHead.run_silence (h : AtLoopHead s) (hn : s.iter.toNat + n = iterLimit s) :
    ∃ t, core.run (3 * n + 1) { s with inbox := silence n ++ [.tick] } = .next (refusedWith 0x02 0 t) ∧ Probed n s t := by
  induction n generalizing s with
  | zero => exact ⟨_, h.run_spent hn.ge, Probed.zero []⟩
  | succ n ih =>
    have hlt : s.iter.toNat < iterLimit s := by omega
    have hleft : (Machine.silentRound s).iter.toNat + n = iterLimit (Machine.silentRound s) := by
      rw [silentRound_iter_toNat hlt, silentRound_iterLimit, Nat.add_right_comm]
      exact hn
    obtain ⟨t, hrun, hprobed⟩ := ih h.silentRound hleft
    have hround := h.run_silentRound hlt (3 * n + 1) (silence n ++ [.tick])
    refine ⟨t, ?_, hprobed.succ hlt⟩
    rw [show 3 * (n + 1) + 1 = 3 * n + 1 + 3 by omega, silence_succ]
    exact hround.trans hrun

end

/-- Settles O32: from ITER = 0 the whole budget is spent in silence. -/
theorem silentTargetEndsInHandshakeTimeout : Obligations.SilentTargetEndsInHandshakeTimeout := by
  unfold Obligations.SilentTargetEndsInHandshakeTimeout
  intro s hb ho hp hc hi hq
  have hhead : AtLoopHead s := ⟨hb, ho, hp, hc, hq⟩
  have hiter : s.iter.toNat = 0 := by rw [hi]; rfl
  obtain ⟨t, hrun, hprobed⟩ := hhead.run_silence (n := iterLimit s) (by rw [hiter, Nat.zero_add])
  have hcount : t.iter.toNat = iterLimit s := by rw [hprobed.iter, hiter, Nat.zero_add]
  exact ⟨refusedWith 0x02 0 t, hrun, rfl, rfl, rfl, rfl, hcount, hprobed.opened, hprobed.session, hprobed.line⟩

/-! ### The identification frame -/

/-- An identifier that the catalog does not hold fails with UnsupportedDevice (R186, R295). -/
theorem identifiedWith_unknown {catalog : W16 → Option (String × W32)} {p : List Byte} (hp : identLength ≤ p.length)
    (hc : catalog (identId p) = none) (s : State) : identifiedWith catalog p s = failedWith 0x05 (identId p) s := by
  rw [identifiedWith, if_neg (Nat.not_lt_of_le hp), hc]
  exact raise_eq_failedWith rfl _ s

/-- Settles O34: the lookup decides, and what is written are the fields of R187. -/
theorem catalogDecidesTheSession : Obligations.CatalogDecidesTheSession := by
  unfold Obligations.CatalogDecidesTheSession
  intro catalog s p hp
  exact ⟨fun name size hc => identifiedWith_known hp hc s, fun hc => identifiedWith_unknown hp hc s⟩

/-- A payload too short for the fields fails with SHORT_REPLY (R183, R293). -/
theorem identifiedWith_short (catalog : W16 → Option (String × W32)) {p : List Byte} (hp : p.length < identLength)
    (s : State) : identifiedWith catalog p s = failedWith 0x53 (BitVec.ofNat 16 p.length) s :=
  (if_pos hp).trans (raise_eq_failedWith rfl _ s)

/-- What the outside world does next has no part in the start of DECODE. -/
theorem AtDecodeStart.with_inbox {s : State} (h : AtDecodeStart s) (rest : List Event) :
    AtDecodeStart { s with inbox := rest } :=
  ⟨h.link, h.reading, h.field, h.rxcnt, h.rxacc, h.rxsize, h.rxchk, h.rxlen, h.rxq⟩

/-- Settles O36: the frame is received whole, and its payload is too short. -/
theorem shortIdentificationFails : Obligations.ShortIdentificationFails := by
  unfold Obligations.ShortIdentificationFails
  intro s p rest h ho hshort
  have hp : p.length ≤ maxPayload := hshort.le.trans (by decide)
  obtain ⟨u, hu, harrive⟩ := (h.with_inbox rest).arrive_frame hp
  have hfail : identified p u = failedWith 0x53 (BitVec.ofNat 16 p.length) u := identifiedWith_short _ hshort u
  refine ⟨failedWith 0x53 (BitVec.ofNat 16 p.length) u, ?_, hu.stored,
    (congrArg (failedWith 0x53 (BitVec.ofNat 16 p.length)) hu.state :)⟩
  rw [step_receive, harrive, hu.finish_identify ho, hfail]

end Sys2Proof.Machine
end

section
/-!
Baud negotiation (42_baud.md): the range and the value of the divider, and what SETBAUD and CHECKBAUD stage.
-/

namespace Sys2Proof.Machine

/-! ### The divider -/

/-- The range test of R212 says of the quotient of R211 that it lies in 1 to 65,536. -/
theorem divisorOk_iff (base baud : Nat) :
    divisorOk base baud = true ↔ baud ≠ 0 ∧ 1 ≤ base / (4 * baud) ∧ base / (4 * baud) ≤ 65536 := by
  simp only [divisorOk, Bool.and_eq_true, decide_eq_true_eq]
  rw [divisorCount, divisorQuotient]
  generalize base / (4 * baud) = q
  omega

/-- Within that range the 16-bit COUNT holds `65536 - q` without wrap (R212). -/
theorem divisorCount16_toNat {base baud : Nat} (hlo : 1 ≤ base / (4 * baud)) (hhi : base / (4 * baud) ≤ 65536) :
    ((divisorCount16 base baud).toNat : Int) = 65536 - (base / (4 * baud) : Nat) := by
  simp only [divisorCount16, divisorCount, divisorQuotient, BitVec.toNat_ofInt]
  generalize base / (4 * baud) = q at hlo hhi ⊢
  omega

/-! ### SETBAUD and CHECKBAUD -/

section
variable {s : State} (h : Ready s) (ho : s.opened = true) (hs : s.session = true)
include h ho hs

/-- An operation that tests OPEN and SESSION reaches what follows them in an open session (R260). -/
theorem onCmd_inSession (v : Byte) (run : State → Host.Outcome State Fault Refusal) :
    onCmd v (fun s => if !s.opened then .next (raise (.refused .notOpen) 0 s)
        else if !s.session then .next (raise (.refused .noSession) 0 s) else run s) s
      = run { s with done := false } := by
  rw [onCmd_of_ready h, if_neg (by simp [ho]), if_neg (by simp [hs])]

/-- A divider in range is recorded in COUNT and BAUD_SET is staged with it (R213, R214). -/
theorem setbaudWith_inRange {base : Nat} (hq : divisorOk base s.baudTgt.toNat = true) :
    setbaudWith base s = .next (startExchange .setbaud
      (baudSetPayload (s.fosc.extractLsb' 0 8) (divisorCount16 base s.baudTgt.toNat))
      { s with done := false, count := divisorCount16 base s.baudTgt.toNat }) := by
  rw [setbaudWith, onCmd_inSession h ho hs, if_neg (by simp [hq])]

/-- A divider out of range is refused (R212). -/
theorem setbaudWith_outOfRange {base : Nat} (hq : divisorOk base s.baudTgt.toNat ≠ true) :
    setbaudWith base s = .next (refusedWith 0x78 0 s) := by
  rw [setbaudWith, onCmd_inSession h ho hs, if_pos (by simp [hq])]
  rfl

end

/-- Settles O19: the range test decides, and in range the count does not wrap. -/
theorem dividerIsExactOrRefused : Obligations.DividerIsExactOrRefused := by
  unfold Obligations.DividerIsExactOrRefused
  intro base s h ho hs
  refine ⟨fun hbaud hlo hhi => ?inRange, fun hout => ?outOfRange⟩
  case inRange =>
    exact ⟨divisorCount16 base s.baudTgt.toNat, divisorCount16_toNat hlo hhi,
      setbaudWith_inRange h ho hs ((divisorOk_iff _ _).mpr ⟨hbaud, hlo, hhi⟩)⟩
  case outOfRange =>
    have hbad : divisorOk base s.baudTgt.toNat ≠ true := by
      rw [Ne, divisorOk_iff]
      omega
    exact setbaudWith_outOfRange h ho hs hbad

/-- Settles O20: the range test decides, with the block's own OSC_BASE. -/
theorem setbaudStagesTheDivider : Obligations.SetbaudStagesTheDivider := by
  unfold Obligations.SetbaudStagesTheDivider
  intro s h ho hs q c
  show setbaudWith Config.oscBase s = _
  split
  next hq => exact setbaudWith_inRange h ho hs ((divisorOk_iff _ _).mpr hq)
  next hq => exact setbaudWith_outOfRange h ho hs (mt (divisorOk_iff _ _).mp hq)

/-- Settles O21: past its two preconditions CHECKBAUD has no other test. -/
theorem checkbaudSwitchesThenChecks : Obligations.CheckbaudSwitchesThenChecks := by
  unfold Obligations.CheckbaudSwitchesThenChecks
  intro s h ho hs
  show execCheckbaud s = _
  rw [execCheckbaud, onCmd_inSession h ho hs]
  rfl

end Sys2Proof.Machine
end

section
/-!
Flash commands (43_flash.md): what ERASE and WRITE stage, and the size tests that stop WRITE and XFER before anything is sent.
-/

namespace Sys2Proof.Machine

/-! ### The size tests -/

theorem exceedsCapacity_eq_true {s : State} (h : s.flashSz.toNat < s.addr.toNat + s.txlen.toNat) :
    exceedsCapacity s = true :=
  decide_eq_true h

theorem tooLong_eq_true {extra : Nat} {s : State} (h : 65529 < s.txlen.toNat + extra) : tooLong extra s = true :=
  decide_eq_true h

/-! ### WRITE.op in an open session -/

section
variable {s : State} (h : Ready s) (ho : s.opened = true) (hs : s.session = true)
include h ho hs

/-- The capacity test comes before the length test and before the data is read (R232, R240). -/
theorem execWriteOp_beyondFlash (hc : s.flashSz.toNat < s.addr.toNat + s.txlen.toNat) :
    execWriteOp s = .next (failedWith 0x07 0 s) := by
  have hcap : exceedsCapacity { s with done := false } = true := exceedsCapacity_eq_true hc
  rw [execWriteOp, onCmd_inSession h ho hs, if_pos hcap, raise_eq_failedWith rfl]
  rfl

/-- The length test comes second and counts the five payload bytes that stand before the data (R233, R240). -/
theorem execWriteOp_tooLong (hc : s.addr.toNat + s.txlen.toNat ≤ s.flashSz.toNat) (hl : 65524 < s.txlen.toNat) :
    execWriteOp s = .next (refusedWith 0x68 0 s) := by
  have hcap : exceedsCapacity { s with done := false } = false := exceedsCapacity_eq_false hc
  have hlong : tooLong 5 { s with done := false } = true := tooLong_eq_true (Nat.add_lt_add_right hl 5)
  rw [execWriteOp, onCmd_inSession h ho hs, if_neg (by simp [hcap]), if_pos hlong]
  rfl

/-- Past both tests WRITE is staged with what TXBUF holds (R233, R234). -/
theorem execWriteOp_fits {d : List Byte} (hc : s.addr.toNat + s.txlen.toNat ≤ s.flashSz.toNat)
    (hl : s.txlen.toNat ≤ 65524) (hd : txData s = some d) :
    execWriteOp s = .next (startExchange .write (writePayload s.addr d) { s with done := false }) := by
  have hcap : exceedsCapacity { s with done := false } = false := exceedsCapacity_eq_false hc
  have hlong : tooLong 5 { s with done := false } = false := tooLong_eq_false (Nat.add_le_add_right hl 5)
  have hdata : txData { s with done := false } = some d := hd
  rw [execWriteOp, onCmd_inSession h ho hs, if_neg (by simp [hcap]), if_neg (by simp [hlong]), hdata]

end

/-- XFER has no capacity test, and its data is the whole payload (R143, R266). -/
theorem execXfer_tooLong {s : State} (h : Ready s) (ho : s.opened = true) (hl : 65529 < s.txlen.toNat) :
    execXfer s = .next (refusedWith 0x68 0 s) := by
  have hlong : tooLong 0 { s with done := false } = true := tooLong_eq_true hl
  rw [execXfer, onCmd_of_ready h, if_neg (by simp [ho]), if_pos hlong]
  rfl

/-! ### The obligations -/

/-- Settles O22: past its two preconditions ERASE has no other test. -/
theorem eraseOpStagesErase : Obligations.EraseOpStagesErase := by
  unfold Obligations.EraseOpStagesErase
  intro s h ho hs
  show execEraseOp s = _
  rw [execEraseOp, onCmd_inSession h ho hs]
  rfl

/-- Settles O23: the block passes both size tests, and the payload is the WRITE of R233. -/
theorem writeOpStagesTheBlock : Obligations.WriteOpStagesTheBlock := by
  unfold Obligations.WriteOpStagesTheBlock
  intro s d h ho hs hfit hlen hd
  exact execWriteOp_fits h ho hs hfit hlen hd

/-- Settles O28: the size tests in their order. -/
theorem oversizeWritesFailBeforeSending : Obligations.OversizeWritesFailBeforeSending := by
  unfold Obligations.OversizeWritesFailBeforeSending
  intro s h ho
  exact ⟨fun hs hbeyond => execWriteOp_beyondFlash h ho hs hbeyond,
    fun hs hfit hlen => execWriteOp_tooLong h ho hs hfit hlen,
    fun hlen => execXfer_tooLong h ho hlen⟩

end Sys2Proof.Machine
end

section
/-!
Transport and host operations (44_transport_and_host_ops.md): which CMD writes are dropped, NOP, CLOSE and its abort, CLRERR, OPEN and
the transport's answer, and the replies that complete the operation in progress.
-/

namespace Sys2Proof.Machine

/-! ### Replies that complete the operation -/

/-- An operation that expects no reply byte completes on any frame (R266). -/
theorem Received.finish_unchecked {p : List Byte} {s u : State} (h : Received p s u) (ho : s.op ≠ .identify)
    (he : s.expect = none) : finish u = .next (complete u) := by
  simp [finish, h.readRange_rxbuf, h.op_eq, h.expect_eq, ho, he]

/-- At the first read of an operation that expects no reply byte, any frame completes it (R266). -/
theorem AtDecodeStart.unchecked_completes {s : State} {p : List Byte} (h : AtDecodeStart s) (ho : s.op ≠ .identify)
    (he : s.expect = none) (hp : p.length ≤ maxPayload) :
    ∃ t, arrive (encodeFrame rxCode p) s = .next t ∧ PayloadStored p s t
      ∧ t = { decodedTo p t s with done := true, busy := false, op := .nothing, phase := .idle } := by
  obtain ⟨u, hu, harrive⟩ := h.arrive_frame hp
  exact ⟨complete u, harrive.trans (hu.finish_unchecked ho he), hu.stored, (congrArg complete hu.state :)⟩

/-- Settles O39: R.ANY is the arrival of its frame, and no byte of it is compared. -/
theorem anyReplyCompletesXfer : Obligations.AnyReplyCompletesXfer := by
  unfold Obligations.AnyReplyCompletesXfer
  intro s p h ho he hw
  exact h.unchecked_completes ho he (of_decide_eq_true hw)

/-- A conforming reply to IDENTIFY is an identification frame whose identifier is in CATALOG (R277). -/
theorem Conforming.identification {bytes : List Byte} (h : Conforming .identify bytes) :
    ∃ p name size, (Instr.rIdent p).WellFormed ∧ bytes = encodeFrame rxCode p
      ∧ Config.catalog (identId p) = some (name, size) := by
  obtain ⟨i, hd, hcat⟩ := h
  obtain ⟨hc, hw, hb⟩ := acceptedBytesAreTheEncoding _ _ _ _ hd
  rw [List.append_nil] at hb
  cases i with
  | rIdent p =>
    obtain ⟨⟨name, size⟩, hlookup⟩ := Option.ne_none_iff_exists'.mp (hcat p rfl)
    exact ⟨p, name, size, hw, hb, hlookup⟩
  | _ => cases hc

/-- A conforming reply to any other operation is a frame that begins with the byte the operation expects, if it expects one (R111,
R278 to R281). -/
theorem Conforming.reply {o : Op} {bytes : List Byte} (h : Conforming o bytes) (ho : o ≠ .identify) :
    ∃ p, p.length ≤ maxPayload ∧ bytes = encodeFrame rxCode p
      ∧ (expectOf o = none ∨ ∃ c q, p = c :: q ∧ expectOf o = some c) := by
  obtain ⟨i, hd, -⟩ := h
  obtain ⟨hc, hw, hb⟩ := acceptedBytesAreTheEncoding _ _ _ _ hd
  rw [List.append_nil] at hb
  cases i with
  | rIdent p => cases hc; exact absurd rfl ho
  | rBaudSet q | rBaudCheck q | rErase q | rWrite q =>
    cases hc
    refine ⟨_, ?_, hb, .inr ⟨_, q, rfl, rfl⟩⟩
    exact of_decide_eq_true hw
  | rAny p =>
    cases hc
    exact ⟨p, of_decide_eq_true hw, hb, .inl rfl⟩
  | _ => cases hc

/-- At the first read of an operation other than IDENTIFY a conforming reply completes it (R278 to R281). -/
theorem AtDecodeStart.conforming_completes {s : State} {bytes : List Byte} (h : AtDecodeStart s)
    (hexp : s.expect = expectOf s.op) (ho : s.op ≠ .identify) (hconf : Conforming s.op bytes) :
    ∃ p t, arrive bytes s = .next t
      ∧ t = { decodedTo p t s with done := true, busy := false, op := .nothing, phase := .idle } := by
  obtain ⟨p, hp, rfl, hnone | ⟨c, q, rfl, hsome⟩⟩ := hconf.reply ho
  · obtain ⟨t, harrive, -, ht⟩ := h.unchecked_completes ho (hexp.trans hnone) hp
    exact ⟨p, t, harrive, ht⟩
  · obtain ⟨t, harrive, -, ht⟩ := h.expected_completes ho (hexp.trans hsome) hp
    exact ⟨c :: q, t, harrive, ht⟩

/-- Settles O40: a conforming reply is the frame the operation waits for; IDENTIFY ends on it by O33, any other operation by
completing on the byte it expects. -/
theorem conformingReplyCompletes : Obligations.ConformingReplyCompletes := by
  unfold Obligations.ConformingReplyCompletes
  intro s bytes rest hinv h hconf
  have hbusy : s.busy = true := ((reading_iff s).mp h.reading).1
  have herr : s.err = false := (hinv.busy_clear hbusy).1
  have hstart : AtDecodeStart { s with inbox := rest } := h.with_inbox rest
  rw [step_receive]
  by_cases ho : s.op = .identify
  · rw [ho] at hconf
    obtain ⟨p, name, size, hw, rfl, hcat⟩ := hconf.identification
    obtain ⟨t, hexec, -, ht⟩ := identificationCreatesTheSession _ p name size hstart ho hw hcat
    refine ⟨t, hexec, ?_⟩
    rw [ht]
    exact ⟨rfl, rfl, herr, h.link, fun _ => rfl, fun hne => absurd ho hne⟩
  · obtain ⟨p, t, harrive, ht⟩ := hstart.conforming_completes (hinv.expected hbusy) ho hconf
    refine ⟨t, harrive, ?_⟩
    rw [ht]
    exact ⟨rfl, rfl, herr, h.link, fun hi => absurd hi ho, fun _ => rfl⟩

/-! ### CMD writes that are dropped -/

/-- Settles O10: of what a CMD write can do, only the abort and the drop go with BUSY = 1. -/
theorem cmdWriteWhileBusyIsDropped : Obligations.CmdWriteWhileBusyIsDropped := by
  unfold Obligations.CmdWriteWhileBusyIsDropped
  intro i s hc hw hb hi
  obtain ⟨v, -, rfl⟩ := encode_cmd hc hw
  have h := exec_cmd_outcome v s
  generalize exec (decodeCmd v) s = o at h ⊢
  cases h with
  | abort _ hv => exact absurd (congrArg decodeCmd hv) hi
  | dropped => rfl
  | clrerr hidle | accepted hidle => simp [hb] at hidle

/-- Settles O11: of what a CMD write can do, only CLRERR and the drop go with BUSY = 0 and ERR = 1. -/
theorem cmdWriteWhileFailedIsDropped : Obligations.CmdWriteWhileFailedIsDropped := by
  unfold Obligations.CmdWriteWhileFailedIsDropped
  intro i s hc hw hb he hi
  obtain ⟨v, -, rfl⟩ := encode_cmd hc hw
  have h := exec_cmd_outcome v s
  generalize exec (decodeCmd v) s = o at h ⊢
  cases h with
  | abort hbusy => simp [hb] at hbusy
  | dropped => rfl
  | clrerr _ hv => exact absurd (congrArg decodeCmd hv) hi
  | accepted _ hclear => simp [he] at hclear

/-! ### NOP -/

/-- NOP between operations with no failure recorded (R261). -/
theorem execNop_of_ready {s : State} (h : Ready s) : execNop s = .next { s with done := true } := by
  rw [execNop, onCmd_of_ready h]

/-- Settles O13: accepted, NOP sets DONE; otherwise O10 and O11 drop it. -/
theorem nopOnlySetsDone : Obligations.NopOnlySetsDone := by
  unfold Obligations.NopOnlySetsDone
  refine fun s => ⟨rfl, execNop_of_ready, fun h => ?_⟩
  cases hb : s.busy with
  | true => exact cmdWriteWhileBusyIsDropped .nop s rfl rfl hb nofun
  | false => exact cmdWriteWhileFailedIsDropped .nop s rfl rfl hb (by simpa [hb] using h) nofun

/-! ### CLOSE -/

/-- The abort of R264 where no TpOpen is pending: the port held is that of the open link. -/
theorem abort_of_not_opening {s : State} (h : s.phase ≠ .opening) :
    abort s = { s with
      opened := false, session := false, busy := false, op := .nothing, phase := .idle, done := true
      out := if s.opened then s.out ++ [.close] else s.out
      rxq := if s.opened then [] else s.rxq } := by
  rw [abort, portHeld_of_not_opening h, if_neg h]

/-- The abort of R264 while TpOpen is pending uses up the free value that says whether the port was obtained (log 20). -/
theorem abort_of_opening {s : State} (h : s.phase = .opening) :
    abort s = { s with
      opened := false, session := false, busy := false, op := .nothing, phase := .idle, done := true
      out := if portHeld s then s.out ++ [.close] else s.out
      rxq := if portHeld s then [] else s.rxq
      fresh := s.fresh + 1 } := by
  rw [abort, if_pos h]

/-- Settles O12: CLOSE is the abort, and an open link is a port that is held. -/
theorem closeWhileBusyAborts : Obligations.CloseWhileBusyAborts := by
  unfold Obligations.CloseWhileBusyAborts
  intro s hb
  rw [exec_close_busy hb]
  exact ⟨fun h => congrArg _ (abort_of_not_opening h),
    fun h => ⟨portHeld s, fun ho => by simp [portHeld, ho], congrArg _ (abort_of_opening h)⟩⟩

/-- Closing an open link (R263). -/
theorem closeLink_of_opened {s : State} (h : s.opened = true) :
    closeLink s = { s with opened := false, session := false, out := s.out ++ [.close], rxq := [] } := by
  rw [closeLink, if_pos h, if_pos h]

/-- On a closed link there is nothing to close (R263). -/
theorem closeLink_of_closed {s : State} (h : s.opened = false) : closeLink s = { s with session := false } := by
  simp [closeLink, h]

/-- CLOSE between operations with no failure recorded (R263). -/
theorem execClose_of_ready {s : State} (h : Ready s) : execClose s = .next { closeLink s with done := true } :=
  onCmd_of_ready h _ _

/-- Settles O14: the link decides what CLOSE has to close, and while ERR = 1 O11 drops it. -/
theorem closeEndsTheSession : Obligations.CloseEndsTheSession := by
  unfold Obligations.CloseEndsTheSession
  refine fun s => ⟨rfl, fun h ho => ?_, fun h ho => ?_, fun hb he => ?_⟩
  · exact (execClose_of_ready h).trans (by rw [closeLink_of_opened ho])
  · exact (execClose_of_ready h).trans (by rw [closeLink_of_closed ho])
  · exact cmdWriteWhileFailedIsDropped .close s rfl rfl hb he nofun

/-! ### CLRERR -/

/-- Settles O15: with ERR = 1 CLRERR is the second arm of R260, with ERR = 0 the operation's own meaning; both clear the record. -/
theorem clrerrClearsTheFailure : Obligations.ClrerrClearsTheFailure := by
  unfold Obligations.ClrerrClearsTheFailure
  intro s hb
  show execClrerr s = .next (clearErr s)
  cases he : s.err with
  | true => simp [execClrerr, onCmd, hb, he]
  | false => exact onCmd_of_ready ⟨hb, he⟩ _ _

/-! ### OPEN -/

/-- Settles O16: with its precondition met OPEN is accepted. -/
theorem openCallsTheTransport : Obligations.OpenCallsTheTransport := by
  unfold Obligations.OpenCallsTheTransport
  intro s h ho
  show execOpen s = _
  rw [execOpen, onCmd_of_ready h, if_neg (by simp [ho])]
  rfl

/-- The answer to the pending TpOpen is taken as it comes (R262). -/
theorem step_openAnswer {s : State} (hb : s.busy = true) (hp : s.phase = .opening) (ok : Bool) (rest : List Event) :
    step { s with inbox := .openAnswer ok :: rest } = .next (openAnswered ok { s with inbox := rest }) :=
  (step_event { s with inbox := .openAnswer ok :: rest } _ rest rfl (by simp)).trans (if_pos (by simp [hb, hp]))

/-- A failure on a closed link has no port to release (R301). -/
theorem failedWith_of_closed {s : State} (h : s.opened = false) (code : Byte) (info : W16) :
    failedWith code info s = { refusedWith code info s with session := false } := by
  simp [failedWith, refusedWith, h]

/-- Settles O17: the answer decides between completion and TransportUnavailable. -/
theorem openEndsWithTheAnswer : Obligations.OpenEndsWithTheAnswer := by
  unfold Obligations.OpenEndsWithTheAnswer
  intro s rest hb hp ho
  have hfail : openAnswered false { s with inbox := rest }
      = { refusedWith 0x01 0 { s with inbox := rest } with session := false } :=
    (raise_eq_failedWith (f := .transportUnavailable) rfl 0 _).trans
      (failedWith_of_closed (s := { s with inbox := rest }) ho 0x01 0)
  exact ⟨step_openAnswer hb hp true rest, (step_openAnswer hb hp false rest).trans (congrArg _ hfail)⟩

end Sys2Proof.Machine
end

section
/-!
Failures (60_exceptions.md): what raising one writes, and that a step records only a failure R304 gives to the operation in progress
or to the acceptance of the CMD value.
-/

namespace Sys2Proof.Machine

/-! ### Failure entry -/

/-- Settles O29: HandshakeTimeout and Refused are the two kinds that are not fatal; the codes are computed from KIND and DETAIL. -/
theorem raiseWritesTheFailureRegisters : Obligations.RaiseWritesTheFailureRegisters := by
  unfold Obligations.RaiseWritesTheFailureRegisters
  refine ⟨fun f info s => ?_, by decide, by decide, by decide, by decide⟩
  cases f with
  | handshakeTimeout => rfl
  | refused d => rfl
  | _ => exact raise_eq_failedWith rfl info s

/-! ### Which failure a state records -/

/-- A failure that `t` records is one of those `allowed`. -/
def Records (allowed : Failure → Bool) (t : State) : Prop :=
  t.err = true → ∃ f : Failure, t.errReg = f.code ∧ allowed f = true

/-- The same of what an instruction answers. -/
def Answers (allowed : Failure → Bool) (o : Host.Outcome State Fault Refusal) : Prop :=
  ∀ t, o = .next t → Records allowed t

section
variable {allowed : Failure → Bool} {s t : State} {f : Failure} {info : W16} {a b : Host.Outcome State Fault Refusal}

theorem Records.of_clear (h : t.err = false) : Records allowed t := by simp [Records, h]

theorem Records.of_raise (h : allowed f = true) : Records allowed (raise f info s) :=
  fun _ => ⟨f, raise_errReg f info s, h⟩

theorem Records.answers (h : Records allowed t) : Answers allowed (.next t) := by
  rintro _ ⟨⟩
  exact h

theorem Answers.of_clear (h : t.err = false) : Answers allowed (.next t) := (Records.of_clear h).answers

theorem Answers.of_raise (h : allowed f = true) : Answers allowed (.next (raise f info s)) := (Records.of_raise h).answers

theorem Answers.of_fault (r : Fault) : Answers allowed (.fault r) := by rintro _ ⟨⟩

theorem Answers.ite {c : Prop} [Decidable c] (ha : Answers allowed a) (hb : Answers allowed b) :
    Answers allowed (if c then a else b) := by
  split
  · exact ha
  · exact hb

end

/-! ### Acceptance: the second half of R304 -/

section
variable {s : State}

theorem refuseOp_answers {i : Instr} (h : Ready s) (v : Byte) (hi : mayDecline i (.refused .badOp) = true) :
    Answers (mayDecline i) (refuseOp v s) := by
  rw [refuseOp, onCmd_of_ready h]
  exact .of_raise hi

theorem execNop_answers (h : Ready s) : Answers (mayDecline .nop) (execNop s) := by
  rw [execNop_of_ready h]
  exact .of_clear h.2

theorem execClose_answers (h : Ready s) : Answers (mayDecline .close) (execClose s) := by
  rw [execClose_of_ready h]
  exact .of_clear h.2

theorem execClrerr_answers (h : Ready s) : Answers (mayDecline .clrerr) (execClrerr s) := by
  rw [execClrerr, onCmd_of_ready h]
  exact .of_clear rfl

theorem execOpen_answers (h : Ready s) : Answers (mayDecline .openOp) (execOpen s) := by
  rw [execOpen, onCmd_of_ready h]
  exact .ite (.of_raise rfl) (.of_clear h.2)

theorem execIdentify_answers (h : Ready s) : Answers (mayDecline .identify) (execIdentify s) := by
  rw [execIdentify, onCmd_of_ready h]
  exact .ite (.of_raise rfl) (.ite (.of_raise rfl) (.of_clear h.2))

theorem execSetbaud_answers (h : Ready s) : Answers (mayDecline .setbaud) (execSetbaud s) := by
  rw [execSetbaud, setbaudWith, onCmd_of_ready h]
  exact .ite (.of_raise rfl) (.ite (.of_raise rfl) (.ite (.of_raise rfl) (.of_clear h.2)))

theorem execCheckbaud_answers (h : Ready s) : Answers (mayDecline .checkbaud) (execCheckbaud s) := by
  rw [execCheckbaud, onCmd_of_ready h]
  exact .ite (.of_raise rfl) (.ite (.of_raise rfl) (.of_clear h.2))

theorem execEraseOp_answers (h : Ready s) : Answers (mayDecline .eraseOp) (execEraseOp s) := by
  rw [execEraseOp, onCmd_of_ready h]
  exact .ite (.of_raise rfl) (.ite (.of_raise rfl) (.of_clear h.2))

theorem execWriteOp_answers (h : Ready s) : Answers (mayDecline .writeOp) (execWriteOp s) := by
  rw [execWriteOp, onCmd_of_ready h]
  refine .ite (.of_raise rfl) (.ite (.of_raise rfl) (.ite (.of_raise rfl) (.ite (.of_raise rfl) ?_)))
  split
  · exact .of_fault _
  · exact .of_clear h.2

theorem execXfer_answers (h : Ready s) : Answers (mayDecline .xfer) (execXfer s) := by
  rw [execXfer, onCmd_of_ready h]
  refine .ite (.of_raise rfl) (.ite (.of_raise rfl) ?_)
  split
  · exact .of_fault _
  · exact .of_clear h.2

/-- A CMD write that reaches the operation's own preconditions records only what R304 gives to its acceptance. -/
theorem exec_cmd_answers (h : Ready s) (v : Byte) : Answers (mayDecline (decodeCmd v)) (exec (decodeCmd v) s) := by
  rcases cmd_values v with hv | rfl | rfl | rfl | rfl | rfl | rfl | rfl | rfl | rfl | rfl | rfl | rfl | rfl | rfl | rfl
    | rfl
  · rw [decodeCmd, if_pos hv]
    exact refuseOp_answers h v rfl
  · exact execNop_answers h
  · exact execOpen_answers h
  · exact execClose_answers h
  · exact execIdentify_answers h
  · exact execSetbaud_answers h
  · exact execCheckbaud_answers h
  · exact execEraseOp_answers h
  · exact execWriteOp_answers h
  · exact execXfer_answers h
  · exact refuseOp_answers h 0x09 rfl
  · exact refuseOp_answers h 0x0A rfl
  · exact refuseOp_answers h 0x0B rfl
  · exact refuseOp_answers h 0x0C rfl
  · exact refuseOp_answers h 0x0D rfl
  · exact refuseOp_answers h 0x0E rfl
  · exact execClrerr_answers h

end

/-! ### The receiver: the first half of R304 -/

/-- The operations that send a request and decode a reply. -/
def Exchanging (o : Op) : Prop := o ≠ .nothing ∧ o ≠ .openPort

theorem mayFail_framing {o : Op} (h : Exchanging o) {d : FramingDetail} (hd : d ≠ .shortReply) :
    mayFail o (.framing d) = true := by
  cases o <;> simp_all [Exchanging, mayFail]

theorem mayFail_checksum {o : Op} (h : Exchanging o) : mayFail o .checksum = true := by
  cases o <;> simp_all [Exchanging, mayFail]

theorem mayFail_noReply {o : Op} (h : Exchanging o) (hi : o ≠ .identify) : mayFail o (.rejected .noReply) = true := by
  cases o <;> simp_all [Exchanging, mayFail]

/-- The operations that check payload byte 0 can be rejected in every way. -/
theorem mayFail_rejected {o : Op} {e : Byte} (h : expectOf o = some e) (d : RejectedDetail) :
    mayFail o (.rejected d) = true := by
  cases o <;> simp_all [expectOf, mayFail]

section
variable {s t : State}

/-- A read is pending only in an exchange. -/
theorem Inv.exchanging (h : Inv s) (hr : reading s = true) : Exchanging s.op := by
  obtain ⟨hb, hp⟩ := (reading_iff s).mp hr
  refine ⟨fun ho => ?_, fun ho => ?_⟩
  · simp [h.op_nothing.mp ho] at hb
  · simp [h.phase_opening.mpr ho] at hp

theorem noFrame_records (he : s.err = false) (ho : Exchanging s.op) : Records (mayFail s.op) (noFrame s) := by
  unfold noFrame
  split
  · exact .of_clear he
  · rename_i hi
    exact .of_raise (mayFail_noReply ho hi)

theorem takePrefix_records (he : s.err = false) (ho : Exchanging s.op) (b : Byte) :
    Records (mayFail s.op) (takePrefix b s) := by
  unfold takePrefix
  split
  · exact .of_clear he
  · exact noFrame_records he ho

theorem takeHeader_records (he : s.err = false) (ho : Exchanging s.op) (b : Byte) :
    Records (mayFail s.op) (takeHeader b s) := by
  unfold takeHeader
  split
  · exact .of_clear he
  split
  · exact .of_clear he
  · exact .of_raise (mayFail_framing ho nofun)

theorem takeSize_records (he : s.err = false) (ho : Exchanging s.op) (b : Byte) :
    Records (mayFail s.op) (takeSize b s) := by
  unfold takeSize
  dsimp only
  split
  · exact .of_clear he
  split
  · exact .of_raise (mayFail_framing ho nofun)
  split
  · exact .of_clear he
  · exact .of_clear he

theorem takePayload_err (b : Byte) (s : State) : (takePayload b s).err = s.err := by
  unfold takePayload
  dsimp only
  split <;> rfl

theorem takeChk_err (b : Byte) (s : State) : (takeChk b s).err = s.err := by
  unfold takeChk
  dsimp only
  split <;> rfl

theorem takeSuffix_records (he : s.err = false) (ho : Exchanging s.op) (b : Byte) :
    Records (mayFail s.op) (takeSuffix b s) := by
  unfold takeSuffix
  dsimp only
  split
  · exact .of_raise (mayFail_checksum ho)
  split
  · exact .of_raise (mayFail_framing ho nofun)
  · exact .of_clear he

theorem takeByte_records (he : s.err = false) (ho : Exchanging s.op) (b : Byte) :
    Records (mayFail s.op) (takeByte b s) := by
  unfold takeByte
  split
  · exact takePrefix_records he ho b
  · exact takeHeader_records he ho b
  · exact takeSize_records he ho b
  · exact .of_clear ((takePayload_err b s).trans he)
  · exact .of_clear ((takeChk_err b s).trans he)
  · exact takeSuffix_records he ho b

theorem takeTimeout_records (he : s.err = false) (ho : Exchanging s.op) : Records (mayFail s.op) (takeTimeout s) := by
  unfold takeTimeout
  split
  · exact noFrame_records he ho
  · exact .of_raise (mayFail_framing ho nofun)

/-- An operation that is still in progress after a move of the sequencer is the one before it. -/
theorem Exchange.op_of_busy (h : Exchange s (.next t)) (hb : t.busy = true) : t.op = s.op := by
  cases h with
  | going _ ht => exact eq_of_hostView State.op ht
  | failed f info u => simp at hb
  | completed u => simp at hb
  | identified u => simp at hb

/-- What stands after some bytes of a delivery to operation `o`: the operation itself, or its end. -/
structure Delivered (o : Op) (t : State) : Prop where
  inv : Inv t
  op : t.busy = true → t.op = o
  records : Records (mayFail o) t

theorem Delivered.drain {o : Op} (h : Delivered o s) (n : Nat) : Delivered o (drain n s) := by
  refine drain_induction (Delivered o) (fun t b r ht _ hr => ?_) n s h
  have hb : t.busy = true := ((reading_iff t).mp hr).1
  have hinv : Inv { t with rxq := r } := ht.inv.environment r t.inbox t.fresh
  rw [← ht.op hb]
  exact ⟨hinv.takeByte hr b, (takeByte_exchange (s := { t with rxq := r }) hb b).op_of_busy,
    takeByte_records (hinv.busy_clear hb).1 (hinv.exchanging hr) b⟩

theorem finish_answers (h : Inv s) (hb : s.busy = true) : Answers (mayFail s.op) (finish s) := by
  have he : s.err = false := (h.busy_clear hb).1
  rcases finish_cases s _ rfl with ⟨-, hf⟩ | ⟨p, -, ⟨ho, hf⟩ | ⟨-, -, hf⟩ | ⟨e, -, hexp, hf⟩⟩ <;> rw [hf]
  · exact .of_fault _
  · rw [ho]
    rcases identified_cases p s with hi | hi | ⟨name, size, hi⟩ <;> rw [hi]
    · exact .of_raise rfl
    · exact .of_raise rfl
    · exact .of_clear he
  · exact .of_clear he
  · rcases checkReply_cases p e s with hc | ⟨d, info, hc⟩ <;> rw [hc]
    · exact .of_clear he
    · exact .of_raise (mayFail_rejected ((h.expected hb).symm.trans hexp) d)

theorem Delivered.settle_answers {o : Op} (h : Delivered o t) : Answers (mayFail o) (settle t) := by
  unfold Machine.settle
  split
  · rename_i hbp
    have hb : t.busy = true := (Bool.and_eq_true _ _ ▸ hbp).1
    exact h.op hb ▸ finish_answers h.inv hb
  · exact h.records.answers

theorem arrive_answers (h : Inv s) (he : s.err = false) (bytes : List Byte) :
    Answers (mayFail s.op) (arrive bytes s) := by
  rcases arrive_cases bytes s with ⟨-, ha⟩ | ⟨-, ha⟩ <;> rw [ha]
  · exact .of_clear he
  · exact (Delivered.drain (s := { s with rxq := s.rxq ++ bytes })
      ⟨h.environment _ s.inbox s.fresh, fun _ => rfl, .of_clear he⟩ _).settle_answers

/-! ### A step -/

theorem openAnswered_records (he : s.err = false) (ho : s.op = .openPort) (ok : Bool) :
    Records (mayFail s.op) (openAnswered ok s) := by
  cases ok with
  | true => exact .of_clear he
  | false =>
    rw [ho]
    exact .of_raise (f := .transportUnavailable) rfl

theorem nextIteration_records (he : s.err = false) (ho : s.op = .identify) :
    Records (mayFail s.op) (nextIteration s) := by
  unfold nextIteration
  split
  · exact .of_clear he
  · rw [ho]
    exact .of_raise rfl

/-- The sequencer records only what R304 gives to the operation in progress. -/
theorem BlockOutcome.answers {o : Host.Outcome State Fault Refusal} (ho : BlockOutcome s o) (h : Inv s)
    (he : s.err = false) : Answers (mayFail s.op) o := by
  cases ho with
  | same => exact .of_clear he
  | answered hb hp ok n => exact (openAnswered_records (s := { s with fresh := n }) he (h.phase_opening.mp hp) ok).answers
  | synch => exact .of_clear he
  | iteration hb hp => exact (nextIteration_records he (h.phase_probe hp)).answers
  | sendByte => exact .of_clear ((eq_of_hostView State.err (sendByte_hostView s)).trans he)
  | sendFrame => exact .of_clear he
  | tooLong => exact .of_fault _
  | byte hr b q n => exact (takeByte_records (s := { s with rxq := q, fresh := n }) he (h.exchanging hr) b).answers
  | timeout hr n => exact (takeTimeout_records (s := { s with fresh := n }) he (h.exchanging hr)).answers
  | finish hb hp o hf => exact hf ▸ finish_answers h hb

/-- A step records only what R304 gives to the operation in progress, unless it is a CMD write with BUSY = 0. -/
theorem StepOutcome.answers {o : Host.Outcome State Fault Refusal} (ho : StepOutcome s o) (h : Inv s)
    (he : s.err = false) :
    Answers (mayFail s.op) o ∨ (s.busy = false ∧ ∃ v rest, s.inbox = .writeReg .cmd v :: rest) := by
  have hr : ∀ r, Inv { s with inbox := r } := fun r => h.environment s.rxq r s.fresh
  cases ho with
  | alone hi o hb => exact .inl (hb.answers h he)
  | tick r hi o hb => exact .inl (hb.answers (hr r) he)
  | cmd v r hi o hc =>
    cases hc with
    | abort => exact .inl (.of_clear he)
    | dropped => exact .inl (.of_clear he)
    | clrerr => exact .inl (.of_clear rfl)
    | accepted hb => exact .inr ⟨hb, v, r, hi⟩
  | register k v r hk hi =>
    rw [writeReg_changes]
    exact .inl (.of_clear he)
  | load k b r hi o ho =>
    refine .inl fun t ht => ?_
    rw [(loadByte_next (ho.trans ht)).1]
    exact .of_clear he
  | receive bytes r hi o ho => exact .inl (ho ▸ arrive_answers (hr r) he bytes)
  | timeout r hi hread => exact .inl (takeTimeout_records (s := { s with inbox := r }) he (h.exchanging hread)).answers
  | ignored => exact .inl (.of_clear he)
  | answered ok r hi hb hp =>
    exact .inl (openAnswered_records (s := { s with inbox := r }) he (h.phase_opening.mp hp) ok).answers
  | reset => exact .inl (.of_clear rfl)

/-- No failure is given to NONE, so one of the operation in progress comes with BUSY = 1. -/
theorem Inv.busy_of_mayFail (h : Inv s) {f : Failure} (hf : mayFail s.op f = true) : s.busy = true := by
  by_contra hb
  rw [h.op_nothing.mpr (by simpa using hb)] at hf
  simp [mayFail] at hf

end

/-- Settles O56: everything a step can do belongs to the operation in progress, but for a CMD write with BUSY = 0, which is an
acceptance. -/
theorem failuresAreThoseOfTheirOperation : Obligations.FailuresAreThoseOfTheirOperation := by
  unfold Obligations.FailuresAreThoseOfTheirOperation
  intro s t hinv hclear hs hwrong
  have he : s.err = false := by simpa [wentWrong] using hclear
  rcases (step_outcome s).answers hinv he with hop | ⟨hb, v, rest, hi⟩
  · obtain ⟨f, hcode, hf⟩ := hop t hs hwrong
    exact ⟨f, hcode, .inl ⟨hinv.busy_of_mayFail hf, hf⟩⟩
  · rw [step_cmd s v rest hi] at hs
    have hready : Ready { s with inbox := rest } := ⟨hb, he⟩
    obtain ⟨f, hcode, hf⟩ := exec_cmd_answers hready (v.setWidth 8) t hs hwrong
    exact ⟨f, hcode, .inr ⟨hb, v, rest, hi, hf⟩⟩

end Sys2Proof.Machine
end
